-- ==== Sys2Proof/Word.lean ====
section
/-! DEFINITION. The word types of the block (00_scope.md R10, 10_state.md R21): every value is an
unsigned bit vector (30_encoding.md R85). -/
namespace Sys2Proof

/-- One 8-bit register value, one byte on the wire (`VALUE_BITS`, R8). -/
abbrev Byte := BitVec 8

/-- A host register address, 0x000-0x1FF (R21). -/
abbrev HostAddr := BitVec 9

/-- The OP field of the command byte, CMD[3:0] (R22, R71). -/
abbrev Opcode := BitVec 4

/-- A device register address, 0x00-0x7F (`ADDR_BITS`, R50). -/
abbrev DevAddr := BitVec 7

end Sys2Proof
end

