-- ==== Sys2Proof/Config.lean ====
section
/-! DEFINITION. The constants of 00_scope.md R8, the build parameters, and the free values: what the spec
leaves open is an opaque constant with no body, applied to the step counter of State. -/
namespace Sys2Proof

/-- Bit order of each byte on MOSI and MISO (`BIT_ORDER`, R8, 20_memory.md R59). -/
inductive BitOrder where
  | msbFirst
  | lsbFirst
deriving DecidableEq, Repr

/-- The build parameters of R8 that a rule reads. They are data of the state, so that a claim about every
state is a claim about every build. -/
structure Params where
  /-- `FRF_CODE`, the 24-bit carrier-frequency code (R8, R140). -/
  frfCode : BitVec 24
  /-- `POLL_LIMIT`: none, or a bound L on the polls that observe the flag clear (R8, R150). -/
  pollLimit : Option Nat
  /-- `BIT_ORDER` (R8, R59). -/
  bitOrder : BitOrder
  /-- `CS_ACTIVE`, the chip-select level that selects the radio (R8, R37). -/
  csActive : Bool
deriving DecidableEq, Repr

/-- The defaults of R8: 0xE4C000, no poll limit, MSB first, chip select active low. -/
def Params.default : Params where
  frfCode := 0xE4C000#24
  pollLimit := none
  bitOrder := .msbFirst
  csActive := false

namespace Config

/-! ### Radio register addresses and values (R8) -/

def regFifo : Byte := 0x00
def regOpMode : Byte := 0x01
def regFrf : Byte := 0x06
def regPaConfig : Byte := 0x09
def regFifoAddrPtr : Byte := 0x0D
def regFifoTxBase : Byte := 0x0E
def regIrqFlags : Byte := 0x12
def regPayloadLen : Byte := 0x22
def opModeLoraSleep : Byte := 0x80
def opModeLoraTx : Byte := 0x83
def paConfigBoost : Byte := 0x80
def irqTxDone : Byte := 0x08

/-! ### Sizes, ranges and times (R8) -/

/-- `DUMP_FIRST`. -/
def dumpFirst : Nat := 0x00
/-- `DUMP_LAST`, inclusive. -/
def dumpLast : Nat := 0x42
/-- `MAX_PAYLOAD`: the largest block and payload length LEN can hold. -/
def maxPayload : Nat := 255
/-- `BUF_SIZE`. -/
def bufSize : Nat := 256
/-- `RESET_LOW_MS`, a lower bound. -/
def resetLowMs : Nat := 10
/-- `RESET_HIGH_MS`, a lower bound. -/
def resetHighMs : Nat := 10
/-- `POLL_MS`, a lower bound. -/
def pollMs : Nat := 10
/-- `SCK_HZ`: the SPI clock rate. -/
def sckHz : Nat := 500000

/-! ### Free values

Nothing in Lean can prove a value of these. The first argument is the step counter at which the value is drawn. -/

/-- `CLK_HZ`, OPEN: no rule depends on it (R8, D33). -/
opaque clkHz : Nat
/-- `XFER_OK`: whether the frame drawn at this step succeeds (R13, D19). -/
opaque xferOk : Nat → Bool
/-- The byte DEV drives on MISO at a frame position (R13, D34). -/
opaque misoByte : Nat → Nat → Byte
/-- `INIT_OK`: whether the bus and lines open (70_reset_and_hazards.md R201, D18). -/
opaque initOk : Nat → Bool
/-- The reset draw of BUF[i] (10_state.md R32, U5); the first argument is the step of that block reset. -/
opaque bufReset : Nat → Nat → Byte
/-- What a host read of DATA_LO, DATA_HI or BUF returns while BUSY (R35, U6). -/
opaque busyRead : Nat → Byte
/-- The level of `mosi` between frames (R37, U14). -/
opaque mosiIdle : Nat → Bool
/-- A register of the unconstrained radio, at any step (R38, R205, D34, U7). -/
opaque radioReg : Nat → DevAddr → Byte
/-- The FIFO position of the unconstrained radio, at any step (R41): any natural number, since the FIFO's size and wrap
are not in the source. -/
opaque radioFifoPos : Nat → Nat

end Config
end Sys2Proof
end

