-- ==== Sys2Proof/Syntax.lean ====
section
/-! DEFINITION. The commands of the block: one constructor per row of the opcode table (30_encoding.md R71).
A command byte carries no operand: the operands stand in the host registers ADDR, LEN, DATA_LO, DATA_HI and
BUF (10_state.md R20). -/
namespace Sys2Proof

/-- The nine commands (R71; D00's names are in R15). -/
inductive Instr where
  /-- OP 0x1, `readByte`: 40_register_bus.md R100. -/
  | rdb
  /-- OP 0x2, `readWord`: R102. -/
  | rdw
  /-- OP 0x3, `readBlock`: R104. -/
  | rdblk
  /-- OP 0x5, `writeByte`: R106. -/
  | wrb
  /-- OP 0x6, `writeWord`: R108. -/
  | wrw
  /-- OP 0x7, `writeBlock`: R110. -/
  | wrblk
  /-- OP 0x8, `dumpRegisters`: R112. -/
  | dump
  /-- OP 0x9, the one-time configuration: 41_transmit_controller.md R140. -/
  | config
  /-- OP 0xA, `runTransmitCycle`: R144. -/
  | txcycle
deriving DecidableEq, Repr

end Sys2Proof
end

