-- ==== Sys2Proof/Machine/State.lean ====
section
/-! DEFINITION. The state of the block and of the agents around it (00_scope.md R9), and the state right after
block reset (70_reset_and_hazards.md R203). Plain data throughout. -/
namespace Sys2Proof.Machine

/-! ### Enumerations -/

/-- The reset-sequence phase `rs` (10_state.md R31): RS_OPEN, RS_LOW, RS_HIGH, RS_READY, RS_FAILED. -/
inductive ResetPhase where
  | opening
  | low
  | high
  | ready
  | failed
deriving DecidableEq, Repr

/-- The transmit state `ts` (R29, R31). -/
inductive TxState where
  | idle
  | loading
  | transmitting
  | awaiting
  | done
deriving DecidableEq, Repr

/-- The error codes of ERRCODE (R28, 60_exceptions.md R170); 5-15 are never produced. -/
inductive ErrCode where
  | noError
  | init
  | bus
  | illegalOp
  | timeout
deriving DecidableEq, Repr

/-- The observer events (60_exceptions.md R181). -/
inductive Event where
  | loading
  | transmitting
  | pollTick
  | done
deriving DecidableEq, Repr

/-- One entry of the event history (R44). -/
inductive HistEntry where
  /-- `FRAME(tx, rx)`: a successful transfer. -/
  | frame (tx rx : List Byte)
  /-- `FAIL(tx)`: a failed transfer. -/
  | fail (tx : List Byte)
  /-- `RST(level)`: a change of the radio's reset line. -/
  | rst (level : Bool)
  /-- `DELAY(ms)`: a delay of at least `ms` milliseconds. -/
  | delay (ms : Nat)
  /-- `EVT(code)`: an observer event. -/
  | evt (e : Event)
deriving DecidableEq, Repr

/-! ### The agents around the block -/

/-- An answer of the environment to one `Transfer` (00_scope.md R12, R13). A position that `rx` does not list
is a free value. -/
inductive Reply where
  | ok (rx : List Byte)
  | fail
deriving DecidableEq, Repr

/-- The reference device REFDEV (92_eei_decisions.md D27): not normative, used for the spec's test vectors and
for the properties that name a mock device. `regs` and `fifo` list the bytes that are not 0. -/
structure RefDev where
  regs : List Host.Cell
  fifo : List Host.Cell
  fp : Byte
  j : Nat
  irqScript : List Byte
deriving DecidableEq, Repr

/-- The radio DEV (R9): the normative one, which answers anything (R13, D34) (the answers still to come, free
values once the list is empty), or REFDEV. -/
inductive Device where
  | unconstrained (replies : List Reply)
  | reference (r : RefDev)
deriving DecidableEq, Repr

/-- Who moves in a step (R9, R14): the block, or the host between two micro-steps of the block. -/
inductive Turn where
  /-- The block takes its micro-step, if it has one. -/
  | block
  /-- The host writes a host register (one `h_we` strobe, R36). -/
  | write (a : HostAddr) (v : Byte)
  /-- The host reads a host register (one `h_re` strobe, R36). -/
  | read (a : HostAddr)
  /-- The host loop `wait` (30_encoding.md R82): it reads STATUS until BUSY reads 0. `gaps` lists how many steps the
  block gets before each further read, one when the list is used up (log entry 21). -/
  | wait (gaps : List Nat)
  /-- A host write that falls in the micro-step the block takes (R27, R175). -/
  | blockAndWrite (a : HostAddr) (v : Byte)
  /-- The level of the block reset input `rst_n` changes (R200, R202). -/
  | rstN (level : Bool)
deriving DecidableEq, Repr

/-! ### The state -/

/-- The state. Each field names the rule that gives it; the last group is the model's own. -/
structure State where
  /-- `op_last`: the OP of the last accepted command, read back through CMD (R22). -/
  opLast : Opcode
  /-- ADDR (R23). -/
  addr : Byte
  /-- LEN (R24). -/
  len : Byte
  /-- DATA_LO (R26). -/
  dataLo : Byte
  /-- DATA_HI (R26). -/
  dataHi : Byte
  /-- STATUS.BUSY, bit 0 (R27). -/
  stBusy : Bool
  /-- STATUS.DONE, bit 1 (R27). -/
  stDone : Bool
  /-- STATUS.ERR, bit 2 (R27). -/
  stErr : Bool
  /-- STATUS.OVR, bit 3 (R27, R180). -/
  stOvr : Bool
  /-- STATUS.READY, bit 4 (R27). -/
  stReady : Bool
  /-- ERRCODE.CODE (R28). -/
  errcode : ErrCode
  /-- POLLCNT_HI:POLLCNT_LO (R30). -/
  pollcnt : BitVec 16
  /-- LASTIRQ (R30). -/
  lastirq : Byte
  /-- BUF: the bytes written since block reset, by index (R32). -/
  buf : List Host.Cell
  /-- `rs` (R31). -/
  rs : ResetPhase
  /-- `ts`, mirrored in TXSTATE (R29, R31). -/
  ts : TxState
  /-- `cur`: the opcode of the running command, or none (R31). -/
  cur : Option Opcode
  /-- `k`: the micro-step index inside a command (R31). -/
  k : Nat
  /-- `dly`: a poll delay is pending (R31). -/
  dly : Bool
  /-- `nclear`: the polls of this TXCYCLE that observed the flag clear (R31). -/
  nclear : Nat
  /-- The level of `cs` (R37). -/
  cs : Bool
  /-- The level of `rst_dev` (R37). -/
  rstDev : Bool
  /-- The level of `sck` (R37). -/
  sck : Bool
  /-- The level of `mosi` (R37). -/
  mosi : Bool
  /-- `evt_valid`: the last step emitted an observer event (R36, R181). -/
  evtValid : Bool
  /-- `evt_code` (R36, R181). -/
  evtCode : Event
  /-- `h_rdata`: the data of the last host read (R36). -/
  hRdata : Byte
  /-- The level of the block reset input `rst_n` (R36, R200). -/
  rstN : Bool
  /-- The event history (R44). -/
  history : List HistEntry
  /-- The build parameters (R8). -/
  params : Params
  /-- The radio (R38). -/
  device : Device
  /-- MODEL'S OWN: the low hold of the radio's reset line (micro-step S1) has elapsed and S2 is next (R200). -/
  lowHeld : Bool
  /-- MODEL'S OWN: the step of the last block reset, which names the reset draws of BUF (R32). -/
  bufDraw : Nat
  /-- MODEL'S OWN: the answers still to come to the draw INIT_OK (R201); a free value once the list is empty. -/
  inits : List Bool
  /-- MODEL'S OWN: the turns still to come; the block moves once the list is empty (R14). -/
  turns : List Turn
  /-- MODEL'S OWN: the steps taken; every free value is drawn at it. -/
  tick : Nat
deriving DecidableEq, Repr

/-! ### Reasons to stop -/

/-- Why the machine stops with a fault. Both are safe: no run from reset reaches one (`State.Inv`). -/
inductive Fault where
  /-- DUMP, CONFIG or TXCYCLE finds `k` outside the range R31 gives it; raised by execDump, execConfig and
  execTxcycle; safe. -/
  | sequencerIndex
  /-- `cur` holds a reserved opcode, which acceptance never leaves there (R171); raised by blockStep; safe. -/
  | reservedRunning
deriving DecidableEq, Repr

/-- Why a step is refused. -/
inductive Refusal where
  /-- The command has no meaning yet; raised by exec's refused arms, of which there is none; safe. -/
  | notModelled (mnemonic : String)
deriving DecidableEq, Repr

/-- What a step or a meaning answers. -/
abbrev Result := Host.Outcome State Fault Refusal

/-! ### Reset -/

/-- Every piece of state at its reset value (R203), `rst_n` just released, the default build, and nothing yet
to come from the host or the radio. -/
def State.reset : State where
  opLast := 0x0
  addr := 0x00
  len := 0x00
  dataLo := 0x00
  dataHi := 0x00
  stBusy := true
  stDone := false
  stErr := false
  stOvr := false
  stReady := false
  errcode := .noError
  pollcnt := 0x0000
  lastirq := 0x00
  buf := []
  rs := .opening
  ts := .idle
  cur := none
  k := 0
  dly := false
  nclear := 0
  cs := !Params.default.csActive
  rstDev := true
  sck := false
  mosi := Config.mosiIdle 0
  evtValid := false
  evtCode := .loading      -- DESIGN CHOICE: the spec gives no reset value (log entry 6)
  hRdata := 0x00           -- DESIGN CHOICE: the spec gives no reset value (log entry 6)
  rstN := true
  history := []
  params := Params.default
  device := .unconstrained []
  lowHeld := false
  bufDraw := 0
  inits := []
  turns := []
  tick := 0

end Sys2Proof.Machine
end

