-- ==== Sys2Proof/Machine/Memory.lean ====
section
/-! DEFINITION. Byte memory as a canonical list of cells: addresses strictly rising, below a bound, and no cell
equal to what an unlisted address reads as. `dflt` is that value: none for BUF, whose unlisted bytes are reset
draws (10_state.md R32), and 0 for REFDEV. -/
namespace Sys2Proof.Machine

/-- A byte memory. -/
abbrev Memory := List Host.Cell

/-- The byte listed at an address. -/
def Memory.lookup : Memory → Nat → Option Byte
  | [], _ => none
  | (a, v) :: m, i => if a = i then some v else Memory.lookup m i

/-- Put a byte at an address, keeping the canonical form. -/
def Memory.store (dflt : Option Byte) : Memory → Nat → Byte → Memory
  | [], i, v => if dflt = some v then [] else [(i, v)]
  | (a, w) :: m, i, v =>
    if i < a then
      if dflt = some v then (a, w) :: m else (i, v) :: (a, w) :: m
    else if i = a then
      if dflt = some v then m else (i, v) :: m
    else (a, w) :: Memory.store dflt m i v

/-- Every listed address is at least `lo` and below `hi`, they rise strictly, and no cell is the default. -/
def Memory.wfFrom (dflt : Option Byte) (hi : Nat) : Nat → Memory → Bool
  | _, [] => true
  | lo, (a, v) :: m =>
    decide (lo ≤ a) && decide (a < hi) && decide (dflt ≠ some v) && Memory.wfFrom dflt hi (a + 1) m

/-- The canonical form of a memory with the addresses below `hi`. -/
def Memory.wf (dflt : Option Byte) (hi : Nat) (m : Memory) : Bool := Memory.wfFrom dflt hi 0 m

/-- The byte at an address of a memory whose unlisted bytes are 0. -/
def Memory.byte0 (m : Memory) (i : Nat) : Byte := (Memory.lookup m i).getD 0x00

/-- Put a byte into a memory whose unlisted bytes are 0. -/
def Memory.store0 (m : Memory) (i : Nat) (v : Byte) : Memory := Memory.store (some 0x00) m i v

end Sys2Proof.Machine
end

