-- ==== Sys2Proof/Machine/Device.lean ====
section
/-! DEFINITION. The radio as the block reaches it: `Transfer` (00_scope.md R12, R13), the unconstrained device
(D34), and the reference device REFDEV (92_eei_decisions.md D27). -/
namespace Sys2Proof.Machine

/-! ### REFDEV -/

/-- One read of a device register: the FIFO at 0x00 moves the position (R41), a read of 0x12 first takes the
next script byte into the flags, every other address answers its register. -/
def RefDev.memRead (r : RefDev) (p : DevAddr) : RefDev × Byte :=
  if p = 0x00 then
    ({ r with fp := r.fp + 1 }, Memory.byte0 r.fifo r.fp.toNat)
  else if p = 0x12 then
    let flags := Memory.byte0 r.regs 0x12 ||| r.irqScript.getD r.j 0x00
    ({ r with regs := Memory.store0 r.regs 0x12 flags, j := r.j + 1 }, flags)
  else
    (r, Memory.byte0 r.regs p.toNat)

/-- One write of a device register: the FIFO at 0x00 moves the position (R41), 0x12 is write-one-to-clear
(R40), 0x0D also sets the FIFO position (R41). -/
def RefDev.memWrite (r : RefDev) (p : DevAddr) (v : Byte) : RefDev :=
  if p = 0x00 then
    { r with fifo := Memory.store0 r.fifo r.fp.toNat v, fp := r.fp + 1 }
  else if p = 0x12 then
    { r with regs := Memory.store0 r.regs 0x12 (Memory.byte0 r.regs 0x12 &&& ~~~v) }
  else if p = 0x0D then
    { r with regs := Memory.store0 r.regs p.toNat v, fp := v }
  else
    { r with regs := Memory.store0 r.regs p.toNat v }

/-- The data positions of a frame from device address `p` on. A frame at the FIFO stays there, any other
advances one address a position, modulo 128. -/
def RefDev.positions (write fifo : Bool) : RefDev → DevAddr → List Byte → RefDev × List Byte
  | r, _, [] => (r, [])
  | r, p, b :: bs =>
    let one := if write then (r.memWrite p b, (0x00 : Byte)) else r.memRead p
    let more := RefDev.positions write fifo one.1 (if fifo then p else p + 1) bs
    (more.1, one.2 :: more.2)

/-- One frame on REFDEV: the header's bit 7 is the direction and bits 6:0 the address (R52). -/
def RefDev.frame (r : RefDev) : List Byte → RefDev × List Byte
  | [] => (r, [])
  | h :: data =>
    let a : DevAddr := h.extractLsb' 0 7
    let out := RefDev.positions (h.getLsbD 7) (a == 0x00) r a data
    (out.1, 0x00 :: out.2)

/-- REFDEV's memories are canonical: 128 registers and 256 FIFO bytes. -/
def RefDev.wf (r : RefDev) : Bool :=
  Memory.wf (some 0x00) 128 r.regs && Memory.wf (some 0x00) 256 r.fifo

/-! ### Transfer -/

/-- The MISO bytes of an answer, as long as the frame sent (R12): a position it does not list is a free value (log entry 1). -/
def misoBytes (tick : Nat) (tx rx : List Byte) : List Byte :=
  (List.range tx.length).map (fun i => rx.getD i (Config.misoByte tick i))

/-- `Transfer(tx)` (R12, R13): the device after it, and the bytes received, or none when it fails. -/
def Device.transfer (d : Device) (tick : Nat) (tx : List Byte) : Device × Option (List Byte) :=
  match d with
  | .reference r => (.reference (r.frame tx).1, some (r.frame tx).2)
  | .unconstrained [] =>
    (.unconstrained [], if Config.xferOk tick then some (misoBytes tick tx []) else none)
  | .unconstrained (.ok rx :: rest) => (.unconstrained rest, some (misoBytes tick tx rx))
  | .unconstrained (.fail :: rest) => (.unconstrained rest, none)

/-- The device's own data is canonical. -/
def Device.wf : Device → Bool
  | .unconstrained _ => true
  | .reference r => r.wf

/-! ### The radio's registers (10_state.md R38-R41) -/

/-- The radio register at an address: any value at any step (R205, D34), or REFDEV's. -/
def State.radioReg (s : State) (a : DevAddr) : Byte :=
  match s.device with
  | .unconstrained _ => Config.radioReg s.tick a
  | .reference r => Memory.byte0 r.regs a.toNat

/-- The radio's FIFO position (R41): any natural number at any step, or REFDEV's, which is 8 bits wide (D27). -/
def State.radioFifoPos (s : State) : Nat :=
  match s.device with
  | .unconstrained _ => Config.radioFifoPos s.tick
  | .reference r => r.fp.toNat

end Sys2Proof.Machine
end

