-- ==== Sys2Proof/Machine/Flags.lean ====
section
/-! DEFINITION. The flags: the STATUS byte and its write-one-to-clear rule (10_state.md R27), the encodings of
ERRCODE, TXSTATE and the event port, the poll test and the poll counter (R30, R85). The block has no arithmetic
condition codes (R43). -/
namespace Sys2Proof.Machine

/-- One bit of a byte under construction. -/
def bitAt (i : Nat) (b : Bool) : Byte := if b then 1#8 <<< i else 0x00

/-- What STATUS reads as: BUSY, DONE, ERR, OVR, READY in bits 0 to 4, bits 7:5 zero (R27). -/
def State.statusByte (s : State) : Byte :=
  bitAt 0 s.stBusy ||| bitAt 1 s.stDone ||| bitAt 2 s.stErr ||| bitAt 3 s.stOvr ||| bitAt 4 s.stReady

/-- A host write to STATUS: 1 clears DONE, ERR or OVR; every other bit of the write is ignored (R27). -/
def State.w1cStatus (v : Byte) (s : State) : State :=
  { s with
    stDone := s.stDone && !v.getLsbD 1
    stErr := s.stErr && !v.getLsbD 2
    stOvr := s.stOvr && !v.getLsbD 3 }

/-- A host write ignored by R34 sets OVR (R180). -/
def State.setOvr (s : State) : State := { s with stOvr := true }

/-- The number of an error code (R170). -/
def ErrCode.code : ErrCode → BitVec 4
  | .noError => 0
  | .init => 1
  | .bus => 2
  | .illegalOp => 3
  | .timeout => 4

/-- The number of a transmit state (R29). -/
def TxState.code : TxState → BitVec 3
  | .idle => 0
  | .loading => 1
  | .transmitting => 2
  | .awaiting => 3
  | .done => 4

/-- The number of an observer event on `evt_code` (R181). -/
def Event.code : Event → BitVec 2
  | .loading => 0
  | .transmitting => 1
  | .pollTick => 2
  | .done => 3

/-- The poll test: bit 3 of the IRQ flags, `(f & 0x08) != 0` (R147). -/
def txDoneFlag (f : Byte) : Bool := (f &&& Config.irqTxDone) != 0x00

/-- POLLCNT adds 1 and saturates at 0xFFFF (R30). -/
def satInc (n : BitVec 16) : BitVec 16 := if n = 0xFFFF then 0xFFFF else n + 1

/-- `POLL_LIMIT = some L` and `nclear ≥ L` (R147, R150). -/
def State.limitReached (s : State) : Bool :=
  match s.params.pollLimit with
  | none => false
  | some l => decide (l ≤ s.nclear)

end Sys2Proof.Machine
end

