-- ==== Sys2Proof/Machine/Operands.lean ====
section
/-! DEFINITION. Operand assembly and the frames the commands send (30_encoding.md R75-R79). -/
namespace Sys2Proof.Machine

/-! ### Headers and words -/

/-- `hdr(dir, a) = (a & 0x7F) | (dir << 7)` (R75); `write` is the direction bit. -/
def hdr (write : Bool) (a : Byte) : Byte := (a &&& 0x7F) ||| (if write then 0x80 else 0x00)

/-- The 16-bit host value `V = (R[DATA_HI] << 8) | R[DATA_LO]` (R26, R77). -/
def hostWord (hi lo : Byte) : BitVec 16 := (hi.setWidth 16 <<< 8) ||| lo.setWidth 16

/-- `V & 0xFF` (R77). -/
def wordLo (v : BitVec 16) : Byte := (v &&& 0x00FF).setWidth 8

/-- `(V >> 8) & 0xFF` (R77). -/
def wordHi (v : BitVec 16) : Byte := ((v >>> 8) &&& 0x00FF).setWidth 8

/-- The word result, high byte first: `(rx[1] << 8) | rx[2]` (R56, R77). -/
def wireWord (rx1 rx2 : Byte) : BitVec 16 := (rx1.setWidth 16 <<< 8) ||| rx2.setWidth 16

/-- The frequency code, most significant byte first (R77, D12). -/
def frfBytes (f : BitVec 24) : List Byte := [f.extractLsb' 16 8, f.extractLsb' 8 8, f.extractLsb' 0 8]

/-- `rx[i]`. Every caller asks for a position inside the frame it sent (R12). -/
def rxByte (rx : List Byte) (i : Nat) : Byte := rx.getD i 0x00

/-! ### Frames of the RegisterBus commands (R76) -/

/-- RDB: the header and one filler. -/
def rdbTx (a : Byte) : List Byte := [hdr false a, 0x00]

/-- RDW: the header and two fillers. -/
def rdwTx (a : Byte) : List Byte := [hdr false a, 0x00, 0x00]

/-- RDBLK: the header and N fillers. -/
def rdblkTx (a n : Byte) : List Byte := hdr false a :: List.replicate n.toNat 0x00

/-- WRB: the header and the value. -/
def wrbTx (a v : Byte) : List Byte := [hdr true a, v]

/-- WRW: the header, the low byte, the high byte (R57). -/
def wrwTx (a : Byte) (v : BitVec 16) : List Byte := [hdr true a, wordLo v, wordHi v]

/-- WRBLK: the header and the bytes in order (R58). -/
def wrblkTx (a : Byte) (bytes : List Byte) : List Byte := hdr true a :: bytes

/-! ### Frames of the composite commands (R79) -/

/-- DUMP's read of address `k` (R112). -/
def dumpTx (k : Nat) : List Byte := [BitVec.ofNat 8 k &&& 0x7F, 0x00]

/-- CONFIG 1: operating mode to LoRa sleep. -/
def configSleepTx : List Byte := wrbTx Config.regOpMode Config.opModeLoraSleep

/-- CONFIG 2: carrier frequency. -/
def configFrfTx (f : BitVec 24) : List Byte := wrblkTx Config.regFrf (frfBytes f)

/-- CONFIG 3: power amplifier to boost. -/
def configPaTx : List Byte := wrbTx Config.regPaConfig Config.paConfigBoost

/-- LOADING 1: FIFO TX base to 0. -/
def loadBaseTx : List Byte := wrbTx Config.regFifoTxBase 0x00

/-- LOADING 2: FIFO pointer to 0. -/
def loadPtrTx : List Byte := wrbTx Config.regFifoAddrPtr 0x00

/-- LOADING 3: the payload into the FIFO. -/
def loadPayloadTx (bytes : List Byte) : List Byte := wrblkTx Config.regFifo bytes

/-- LOADING 4: the payload length. -/
def loadLenTx (n : Byte) : List Byte := wrbTx Config.regPayloadLen n

/-- TRANSMITTING: operating mode to LoRa transmit. -/
def transmitTx : List Byte := wrbTx Config.regOpMode Config.opModeLoraTx

/-- AWAITING: read the IRQ flags. -/
def pollTx : List Byte := rdbTx Config.regIrqFlags

/-- DONE: write-one-to-clear the transmit-complete flag. -/
def clearTx : List Byte := wrbTx Config.regIrqFlags Config.irqTxDone

end Sys2Proof.Machine
end

