-- ==== Sys2Proof/Machine/Ops.lean ====
section
/-! DEFINITION. The operations the commands share: the buffer, the history and the lines, one frame, taking an
error and completing. -/
namespace Sys2Proof.Machine

/-! ### The buffer (10_state.md R32) -/

/-- `BUF[i]`: the byte written last, or the reset draw of a byte never written since block reset. -/
def State.bufByte (s : State) (i : Nat) : Byte :=
  (Memory.lookup s.buf i).getD (Config.bufReset s.bufDraw i)

/-- `BUF[0..n-1]`. -/
def State.bufBytes (s : State) (n : Nat) : List Byte := (List.range n).map s.bufByte

/-- A BUF memory after `BUF[i] <- v`; an index is 8 bits wide. -/
def bufStore (m : Memory) (i : Nat) (v : Byte) : Memory := Memory.store none m (i % Config.bufSize) v

/-- A BUF memory after the bytes are stored from index `i` on. -/
def bufStoreAll : Memory → Nat → List Byte → Memory
  | m, _, [] => m
  | m, i, v :: vs => bufStoreAll (bufStore m i v) (i + 1) vs

/-! ### History, events and lines -/

/-- Append one history entry (R44). -/
def State.record (e : HistEntry) (s : State) : State := { s with history := s.history ++ [e] }

/-- `Emit(e)`: drive the observer port and append `EVT(e)` (60_exceptions.md R181). -/
def State.emit (e : Event) (s : State) : State :=
  { s with evtValid := true, evtCode := e, history := s.history ++ [.evt e] }

/-- `DriveRst(level)` with its history entry (00_scope.md R12, R200). -/
def State.driveRst (level : Bool) (s : State) : State :=
  { s with rstDev := level, history := s.history ++ [.rst level] }

/-- `Delay(ms)` with its history entry (R12, R16). -/
def State.delay (ms : Nat) (s : State) : State := s.record (.delay ms)

/-- Chip select becomes active for a frame (R37, 40_register_bus.md R114). -/
def State.select (s : State) : State := { s with cs := s.params.csActive }

/-- Chip select becomes inactive after a frame; `sck` rests at 0 and `mosi` is a free value (R37, R114).
DESIGN CHOICE: `mosi` holds that level until the next frame's end or block reset (log entry 24). -/
def State.deselect (s : State) : State :=
  { s with cs := !s.params.csActive, sck := false, mosi := Config.mosiIdle s.tick }

/-! ### Errors and completion -/

/-- `raise E()`: the abort (60_exceptions.md R172). It ends the running command in the same micro-step. -/
def State.raise (e : ErrCode) (s : State) : State :=
  { s with
    errcode := e
    stErr := true
    stDone := true
    stBusy := false
    cur := none
    k := 0
    dly := false
    ts := .idle }

/-- `Complete()`: a command ends well (40_register_bus.md R115). There is no other return (60_exceptions.md R177). -/
def State.complete (s : State) : State :=
  { s with
    stBusy := false
    stDone := true
    cur := none
    k := 0
    ts := .idle }

/-! ### One frame (R114) -/

/-- The answer to `Transfer(tx)` at this state: the bytes received, or none when the frame fails (R12, R13). -/
def State.answer (tx : List Byte) (s : State) : Option (List Byte) := (s.device.transfer s.tick tx).2

/-- The device after `Transfer(tx)`. -/
def State.deviceAfter (tx : List Byte) (s : State) : Device := (s.device.transfer s.tick tx).1

/-- `Transfer(tx)` between the two edges of chip select, and its history entry. -/
def State.exchange (tx : List Byte) (e : HistEntry) (s : State) : State :=
  ({ s.select with device := s.deviceAfter tx } : State).deselect.record e

/-- `RunFrame(tx)` and what the command does with the bytes received. A failed frame is recorded and raises
BUS, and nothing it would have written is written (R114, R116). -/
def State.runFrame (tx : List Byte) (onOk : List Byte → State → State) (s : State) : State :=
  match s.answer tx with
  | some rx => onOk rx (s.exchange tx (.frame tx rx))
  | none => (s.exchange tx (.fail tx)).raise .bus

end Sys2Proof.Machine
end

