-- ==== Sys2Proof/Machine/RegisterBus.lean ====
section
/-! DEFINITION. The RegisterBus commands (40_register_bus.md). A meaning is one micro-step of its command. -/
namespace Sys2Proof.Machine

/-- RDB (R100): one read frame; DATA_LO takes `rx[1]`, DATA_HI takes 0. -/
def execRdb (s : State) : Result :=
  .next (s.runFrame (rdbTx s.addr) fun rx t =>
    ({ t with dataLo := rxByte rx 1, dataHi := 0x00 } : State).complete)

/-- RDW (R102): one read frame; the high byte arrives first. -/
def execRdw (s : State) : Result :=
  .next (s.runFrame (rdwTx s.addr) fun rx t =>
    let v := wireWord (rxByte rx 1) (rxByte rx 2)
    ({ t with dataHi := wordHi v, dataLo := wordLo v } : State).complete)

/-- RDBLK (R104): one read frame; `BUF[i] <- rx[i+1]` for i = 0..N-1. -/
def execRdblk (s : State) : Result :=
  .next (s.runFrame (rdblkTx s.addr s.len) fun rx t =>
    ({ t with buf := bufStoreAll t.buf 0 (rx.drop 1) } : State).complete)

/-- WRB (R106): one write frame with DATA_LO. -/
def execWrb (s : State) : Result :=
  .next (s.runFrame (wrbTx s.addr s.dataLo) fun _ t => t.complete)

/-- WRW (R108): one write frame, the low byte of the host value first. -/
def execWrw (s : State) : Result :=
  .next (s.runFrame (wrwTx s.addr (hostWord s.dataHi s.dataLo)) fun _ t => t.complete)

/-- WRBLK (R110): one write frame with `BUF[0..N-1]`. -/
def execWrblk (s : State) : Result :=
  .next (s.runFrame (wrblkTx s.addr (s.bufBytes s.len.toNat)) fun _ t => t.complete)

/-- The end of a DUMP frame (R112): `BUF[k] <- rx[1]`, `k <- k + 1`, and completion after the last address. -/
def dumpResult (rx : List Byte) (s : State) : State :=
  let t : State := { s with buf := bufStore s.buf s.k (rxByte rx 1), k := s.k + 1 }
  if t.k = Config.dumpLast + 1 then t.complete else t

/-- DUMP (R112): the read of address `k`. -/
def execDump (s : State) : Result :=
  if s.k ≤ Config.dumpLast then .next (s.runFrame (dumpTx s.k) dumpResult)
  else .fault .sequencerIndex

end Sys2Proof.Machine
end

