-- ==== Sys2Proof/Machine/Transmit.lean ====
section
/-! DEFINITION. The TransmitController commands (41_transmit_controller.md). A meaning is one micro-step. -/
namespace Sys2Proof.Machine

/-! ### CONFIG -/

/-- A frame of a command that, when it succeeds, leaves `k` at the next micro-step index. -/
def State.frameThen (tx : List Byte) (next : Nat) (s : State) : State :=
  s.runFrame tx fun _ t => { t with k := next }

/-- CONFIG (R140): sleep mode, carrier frequency, power amplifier, in that order (R141). -/
def execConfig (s : State) : Result :=
  match s.k with
  | 0 => .next (s.frameThen configSleepTx 1)
  | 1 => .next (s.frameThen (configFrfTx s.params.frfCode) 2)
  | 2 => .next (s.runFrame configPaTx fun _ t => t.complete)
  | _ => .fault .sequencerIndex

/-! ### TXCYCLE -/

/-- L1 (R145): enter LOADING; FIFO TX base to 0. -/
def txL1 (s : State) : State :=
  (({ s with ts := .loading } : State).emit .loading).frameThen loadBaseTx 1

/-- L2 (R145): FIFO pointer to 0. -/
def txL2 (s : State) : State := s.frameThen loadPtrTx 2

/-- L3 (R145): the payload. -/
def txL3 (s : State) : State := s.frameThen (loadPayloadTx (s.bufBytes s.len.toNat)) 3

/-- L4 (R145): the payload length. -/
def txL4 (s : State) : State := s.frameThen (loadLenTx s.len) 4

/-- T (R146): enter TRANSMITTING; operating mode to LoRa transmit. -/
def txT (s : State) : State :=
  (({ s with ts := .transmitting } : State).emit .transmitting).runFrame transmitTx fun _ t => t

/-- The first poll of a cycle enters AWAITING and zeroes the counters before its frame (R147, R30). DEDUCED: so they are
0 where that frame fails (log entry 14). -/
def enterAwaiting (s : State) : State :=
  if s.ts = .awaiting then s else { s with ts := .awaiting, pollcnt := 0x0000, nclear := 0 }

/-- What a successful poll does with the flags it read (R147, R150). -/
def pollResult (rx : List Byte) (s : State) : State :=
  let f := rxByte rx 1
  let t : State := { s with pollcnt := satInc s.pollcnt, lastirq := f }
  if txDoneFlag f then t
  else
    let u := ({ t with nclear := t.nclear + 1 } : State).emit .pollTick
    if u.limitReached then u.raise .timeout else { u with dly := true }

/-- P (R147): one poll of the IRQ flags. -/
def txP (s : State) : State := (enterAwaiting s).runFrame pollTx pollResult

/-- W (R148): the wait after a poll that observed the flag clear. -/
def txW (s : State) : State := { s.delay Config.pollMs with dly := false }

/-- D (R149): enter DONE; clear the transmit-complete flag. -/
def txD (s : State) : State :=
  (({ s with ts := .done } : State).emit .done).runFrame clearTx fun _ t => t

/-- C (R149): completion. -/
def txC (s : State) : State := s.complete

/-- The micro-step in AWAITING (R143, R147, R148): W while a delay is pending, D when the last poll observed bit
0x08 set, else P. DEDUCED: LASTIRQ tells D from P (log entry 13). -/
def txAwaiting (s : State) : State :=
  if s.dly then txW s else if txDoneFlag s.lastirq then txD s else txP s

/-- TXCYCLE (R143, R144): the micro-step that `ts` and `k` call for. -/
def execTxcycle (s : State) : Result :=
  match s.ts with
  | .idle => .next (txL1 s)
  | .loading =>
    match s.k with
    | 1 => .next (txL2 s)
    | 2 => .next (txL3 s)
    | 3 => .next (txL4 s)
    | 4 => .next (txT s)
    | _ => .fault .sequencerIndex
  | .transmitting => .next (txP s)
  | .awaiting => .next (txAwaiting s)
  | .done => .next (txC s)

end Sys2Proof.Machine
end

