-- ==== Sys2Proof/Machine/Dispatch.lean ====
section
/-! DEFINITION. One arm per command: the micro-step of the command that runs. -/
namespace Sys2Proof.Machine

def exec (i : Instr) (s : State) : Host.Outcome State Fault Refusal :=
  match i with
  | .rdb => Sys2Proof.Machine.execRdb s
  | .rdw => Sys2Proof.Machine.execRdw s
  | .rdblk => Sys2Proof.Machine.execRdblk s
  | .wrb => Sys2Proof.Machine.execWrb s
  | .wrw => Sys2Proof.Machine.execWrw s
  | .wrblk => Sys2Proof.Machine.execWrblk s
  | .dump => Sys2Proof.Machine.execDump s
  | .config => Sys2Proof.Machine.execConfig s
  | .txcycle => Sys2Proof.Machine.execTxcycle s

end Sys2Proof.Machine
end

