-- ==== Sys2Proof/Decode.lean ====
section
/-! DEFINITION. Decoding the command byte (30_encoding.md R70-R74, R80) and encoding it. -/
namespace Sys2Proof

/-- One row of the opcode table: a byte `b` is this command when `b &&& mask = pattern`. -/
structure OpcodeRow where
  mask : Byte
  pattern : Byte
  instr : Instr
deriving DecidableEq, Repr

/-- Why a byte string is no command. -/
inductive DecodeError where
  /-- There is no byte to decode. -/
  | noByte
  /-- The OP is reserved: 0x0, 0x4, 0xB-0xF (R74). -/
  | reservedOp (op : Opcode)
deriving DecidableEq, Repr

/-- The opcode table (R71); every mask is 0x0F because CMD[7:4] is ignored (R73). -/
def opcodeTable : List OpcodeRow :=
  [ ⟨0x0F, 0x01, .rdb⟩,
    ⟨0x0F, 0x02, .rdw⟩,
    ⟨0x0F, 0x03, .rdblk⟩,
    ⟨0x0F, 0x05, .wrb⟩,
    ⟨0x0F, 0x06, .wrw⟩,
    ⟨0x0F, 0x07, .wrblk⟩,
    ⟨0x0F, 0x08, .dump⟩,
    ⟨0x0F, 0x09, .config⟩,
    ⟨0x0F, 0x0A, .txcycle⟩ ]

/-- The command of a command byte, if its OP is not reserved. -/
def decodeByte (b : Byte) : Option Instr :=
  (opcodeTable.find? (fun r => b &&& r.mask == r.pattern)).map OpcodeRow.instr

/-- CMD[3:0] (R22). -/
def opField (b : Byte) : Opcode := b.extractLsb' 0 4

/-- `zext_8` of an opcode: what CMD reads as (R22). -/
def opByte (op : Opcode) : Byte := op.setWidth 8

/-- The command of an opcode, if it is not reserved (R71). -/
def decodeOp (op : Opcode) : Option Instr := decodeByte (opByte op)

/-- Decode the first command of a byte string; the rest follows it. -/
def decode : List Byte → Except DecodeError (Instr × List Byte)
  | [] => .error .noByte
  | b :: rest =>
    match decodeByte b with
    | some i => .ok (i, rest)
    | none => .error (.reservedOp (opField b))

/-- The opcode of a command (R71). -/
def opcodeOf : Instr → Opcode
  | .rdb => 0x1
  | .rdw => 0x2
  | .rdblk => 0x3
  | .wrb => 0x5
  | .wrw => 0x6
  | .wrblk => 0x7
  | .dump => 0x8
  | .config => 0x9
  | .txcycle => 0xA

/-- The command byte of a command, its ignored bits [7:4] zero (R71, R82). -/
def encode (i : Instr) : List Byte := [opByte (opcodeOf i)]

/-- The bytes of a table word: the longest command is one byte, and the bits above `nbits` are 0. -/
def tableWordBytes (nbits w : Nat) : List Byte := [BitVec.ofNat 8 (w % 2 ^ nbits)]

/-- The command the decoder reads from a word numbered as the opcode table numbers its bits. -/
def decodeTableWord (nbits w : Nat) : Option Instr :=
  match decode (tableWordBytes nbits w) with
  | .ok (i, _) => some i
  | .error _ => none

end Sys2Proof
end

