-- ==== Sys2Proof/Machine/HostPort.lean ====
section
/-! DEFINITION. The host register port (10_state.md R21-R35): acceptance of a command, host writes and reads. -/
namespace Sys2Proof.Machine

/-- Command acceptance (R25), in one micro-step, with the errors it can end in: INIT after a failed reset
sequence, then ILLEGAL_OP for a reserved opcode (60_exceptions.md R171, R173, R175). -/
def State.accept (op : Opcode) (s : State) : State :=
  let t : State :=
    { s with
      opLast := op
      stDone := false
      stErr := false
      errcode := .noError
      stBusy := true
      cur := some op
      k := 0 }
  if s.rs = .failed then t.raise .init
  else if decodeOp op = none then t.raise .illegalOp
  else t

/-- A host write while the block is out of reset (R21, R27, R33, R34). -/
def State.writeReg (a : HostAddr) (v : Byte) (s : State) : State :=
  if 0x100 ≤ a.toNat then
    if s.stBusy then s.setOvr else { s with buf := bufStore s.buf (a.toNat - 0x100) v }
  else match a.toNat with
  | 0x000 => if s.stBusy then s.setOvr else s.accept (opField v)
  | 0x001 => if s.stBusy then s.setOvr else { s with addr := v }
  | 0x002 => if s.stBusy then s.setOvr else { s with len := v }
  | 0x003 => if s.stBusy then s.setOvr else { s with dataLo := v }
  | 0x004 => if s.stBusy then s.setOvr else { s with dataHi := v }
  | 0x005 => s.w1cStatus v
  | _ => s

/-- A host write. While `rst_n` is 0 every piece of state holds its reset value, so it has no effect (R200;
DEDUCED, log entry 11). -/
def State.hostWrite (a : HostAddr) (v : Byte) (s : State) : State :=
  if s.rstN then s.writeReg a v else s

/-- A byte whose read is unspecified while BUSY (R35). -/
def State.unlessBusy (v : Byte) (s : State) : Byte := if s.stBusy then Config.busyRead s.tick else v

/-- What a host read returns (R21, R22, R28, R29, R30, R33, R35). -/
def State.readReg (a : HostAddr) (s : State) : Byte :=
  if 0x100 ≤ a.toNat then s.unlessBusy (s.bufByte (a.toNat - 0x100))
  else match a.toNat with
  | 0x000 => opByte s.opLast
  | 0x001 => s.addr
  | 0x002 => s.len
  | 0x003 => s.unlessBusy s.dataLo
  | 0x004 => s.unlessBusy s.dataHi
  | 0x005 => s.statusByte
  | 0x006 => s.errcode.code.setWidth 8
  | 0x007 => s.ts.code.setWidth 8
  | 0x008 => wordLo s.pollcnt
  | 0x009 => wordHi s.pollcnt
  | 0x00A => s.lastirq
  | _ => 0x00

/-- A host read drives `h_rdata` and has no other effect (R35, R36). -/
def State.hostRead (a : HostAddr) (s : State) : State := { s with hRdata := s.readReg a }

/-- The turns up to and with the next read of the host loop `wait`: the steps the block gets before it, then the loop
(00_scope.md R14; log entry 21). -/
def waitTurns (gaps : List Nat) : List Turn := List.replicate (gaps.headD 1) .block ++ [.wait (gaps.drop 1)]

/-- One round of the host loop `wait` (30_encoding.md R82): the host reads STATUS, and while BUSY reads 1 the block gets
its steps and the loop goes on. -/
def State.hostWait (gaps : List Nat) (s : State) : State :=
  { s.hostRead 0x005 with
    turns := if (s.readReg 0x005).getLsbD 0 then waitTurns gaps ++ s.turns else s.turns }

end Sys2Proof.Machine
end

