-- ==== Sys2Proof/Machine/ResetSequence.lean ====
section
/-! DEFINITION. Block reset and the reset sequence (70_reset_and_hazards.md R200-R203). -/
namespace Sys2Proof.Machine

/-- `rst_n` falls (R202, R203): all state of the block takes its reset value; the build, the radio and what is
still to come from outside stay (log entry 11). `mosi` takes a free value and holds it (DESIGN CHOICE, log entry 24). -/
def State.blockReset (s : State) : State :=
  { State.reset with
    rstN := false
    params := s.params
    cs := !s.params.csActive
    mosi := Config.mosiIdle s.tick
    device := s.device
    bufDraw := s.tick
    inits := s.inits
    turns := s.turns
    tick := s.tick }

/-- `rst_n` takes a level (R200, R202). -/
def State.setRstN (level : Bool) (s : State) : State :=
  if level then { s with rstN := true } else s.blockReset

/-- The draw INIT_OK: the next answer listed, else a free value (R201). -/
def State.initDraw (s : State) : Bool := s.inits.headD (Config.initOk s.tick)

/-- S0 (R200): open the bus; drive the radio's reset line low, or fail (R201). -/
def resetS0 (s : State) : State :=
  let t : State := { s with inits := s.inits.drop 1 }
  if s.initDraw then { t.driveRst false with rs := .low }
  else
    { t with
      rs := .failed
      stBusy := false
      stErr := true
      stReady := false
      errcode := .init }

/-- S1 (R200): hold the line low. DEDUCED: `lowHeld` tells S2 from S1 in RS_LOW (log entry 8). -/
def resetS1 (s : State) : State := { s.delay Config.resetLowMs with lowHeld := true }

/-- S2 (R200): drive the line high. -/
def resetS2 (s : State) : State := { s.driveRst true with rs := .high, lowHeld := false }

/-- S3 (R200): hold the line high; the block is ready. -/
def resetS3 (s : State) : State :=
  { s.delay Config.resetHighMs with rs := .ready, stBusy := false, stReady := true }

end Sys2Proof.Machine
end

