-- ==== Sys2Proof/Machine/Turns.lean ====
section
/-! DEFINITION. Whose turn it is (00_scope.md R9, R14): the block's micro-step, or one host access. -/
namespace Sys2Proof.Machine

/-- The micro-step of the block: none while `rst_n` is 0, the reset sequence (R200), then the running command's
micro-step; an idle block waits (R204). -/
def blockStep (s : State) : Result :=
  if s.rstN then
    match s.rs with
    | .opening => .next (resetS0 s)
    | .low => .next (if s.lowHeld then resetS2 s else resetS1 s)
    | .high => .next (resetS3 s)
    | .ready | .failed =>
      match s.cur with
      | none => .next s
      | some op =>
        match decodeOp op with
        | some i => exec i s
        | none => .fault .reservedRunning
  else .next s

/-- The turn that is next: the first listed, else the block's. -/
def State.turn (s : State) : Turn := s.turns.headD .block

/-- A step begins: its turn is taken from the list, the step counter advances, and the event strobe of the step
before ends (R181). DESIGN CHOICE: the strobe lasts one step (log entry 7), and `evt_code` keeps the last
event's code while the strobe is 0 (log entry 23). -/
def State.begin (s : State) : State :=
  { s with turns := s.turns.drop 1, tick := s.tick + 1, evtValid := false }

/-- A host write in the same micro-step as the block's: the write acts on the state before it, so where both
touch a STATUS bit the block's set wins (R27). An idle block takes no micro-step of its own.
DEDUCED (log entry 10). -/
def blockAndWrite (a : HostAddr) (v : Byte) (s : State) : Result :=
  if s.stBusy then blockStep (s.hostWrite a v) else .next (s.hostWrite a v)

/-- One step: the turn that is next acts. DESIGN CHOICE: the turns are listed (log entry 9). -/
def takeTurn (s : State) : Result :=
  match s.turn with
  | .block => blockStep s.begin
  | .write a v => .next (s.begin.hostWrite a v)
  | .read a => .next (s.begin.hostRead a)
  | .wait gaps => .next (s.begin.hostWait gaps)
  | .blockAndWrite a v => blockAndWrite a v s.begin
  | .rstN level => .next (s.begin.setRstN level)

/-- The state in which a ready block has just accepted the command byte `b`, and the block moves next (log entry 12). -/
def State.loadCommand (b : Byte) (s : State) : State :=
  ({ s with
      rstN := true
      rs := .ready
      stReady := true
      ts := .idle
      dly := false
      turns := .block :: s.turns } : State).accept (opField b)

end Sys2Proof.Machine
end

