-- ==== Sys2Proof/Machine/Step.lean ====
section
/-! DEFINITION. The step, and where it takes its next command from. -/
namespace Sys2Proof.Machine

/-- One step of the machine (00_scope.md R9, R14). -/
def step (s : State) : Host.Outcome State Fault Refusal := takeTurn s

/-- The block fetches no instructions (20_memory.md R99): it runs the command that was accepted. So this is the
state right after a ready block accepted the command byte, and the very next step runs that command. -/
def State.withFetchWord (s : State) (nbits w : Nat) : State :=
  s.loadCommand ((tableWordBytes nbits w).headD 0x00)

end Sys2Proof.Machine
end

