-- ==== Sys2Proof/Syntax/Assembler.lean ====
section
/-! DEFINITION. The assembler's command terms (30_encoding.md R81): a command together with the operands
that its host writes set up. Their expansion into host accesses (R82) is Machine/Assembler.lean. -/
namespace Sys2Proof

/-- A command with its operands, as R81 writes it. -/
inductive AsmCmd where
  | rdb (a : Byte)
  | rdw (a : Byte)
  | rdblk (a : Byte) (n : Byte)
  | wrb (a : Byte) (v : Byte)
  | wrw (a : Byte) (v : BitVec 16)
  | wrblk (a : Byte) (bytes : List Byte)
  | dump
  | config
  | txcycle (bytes : List Byte)
deriving DecidableEq, Repr

/-- The command that an assembler term starts (R81, R82). -/
def AsmCmd.instr : AsmCmd → Instr
  | .rdb _ => .rdb
  | .rdw _ => .rdw
  | .rdblk _ _ => .rdblk
  | .wrb _ _ => .wrb
  | .wrw _ _ => .wrw
  | .wrblk _ _ => .wrblk
  | .dump => .dump
  | .config => .config
  | .txcycle _ => .txcycle

end Sys2Proof
end

