-- ==== Sys2Proof/WellFormed.lean ====
section
/-! DEFINITION. Well-formedness of syntax and of a build's parameters. A command byte has no operand field, so
every `Instr` is well formed; an assembler term is well formed when LEN can hold its length. -/
namespace Sys2Proof

/-- Every command is well formed: CMD carries an opcode and nothing else (R70, R71). -/
def Instr.wellFormed : Instr → Bool
  | .rdb => true
  | .rdw => true
  | .rdblk => true
  | .wrb => true
  | .wrw => true
  | .wrblk => true
  | .dump => true
  | .config => true
  | .txcycle => true

/-- A block or payload has at most 255 bytes, the largest LEN (R24, R81). -/
def AsmCmd.wellFormed : AsmCmd → Bool
  | .wrblk _ bytes => decide (bytes.length ≤ Config.maxPayload)
  | .txcycle bytes => decide (bytes.length ≤ Config.maxPayload)
  | .rdb _ => true
  | .rdw _ => true
  | .rdblk _ _ => true
  | .wrb _ _ => true
  | .wrw _ _ => true
  | .dump => true
  | .config => true

/-- `POLL_LIMIT` is none or a natural number L ≥ 1 (R150). -/
def Params.wellFormed (p : Params) : Bool :=
  match p.pollLimit with
  | none => true
  | some l => decide (1 ≤ l)

end Sys2Proof
end

