-- ==== Sys2Proof/Machine/Assembler.lean ====
section
/-! DEFINITION. The expansion of assembler terms into host accesses (30_encoding.md R81-R84). -/
namespace Sys2Proof.Machine

/-- The host writes that put bytes into BUF from index `i` on (R82). -/
def bufWrites : Nat → List Byte → List Turn
  | _, [] => []
  | i, v :: vs => .write (BitVec.ofNat 9 (0x100 + i)) v :: bufWrites (i + 1) vs

/-- The write to CMD that starts the command (R82). -/
def startWrite (i : Instr) : Turn := .write 0x000 (opByte (opcodeOf i))

/-- The host writes that set up and start a command (R82). -/
def hostWrites : AsmCmd → List Turn
  | .rdb a => [.write 0x001 a, startWrite .rdb]
  | .rdw a => [.write 0x001 a, startWrite .rdw]
  | .rdblk a n => [.write 0x001 a, .write 0x002 n, startWrite .rdblk]
  | .wrb a v => [.write 0x001 a, .write 0x003 v, startWrite .wrb]
  | .wrw a v => [.write 0x001 a, .write 0x003 (wordLo v), .write 0x004 (wordHi v), startWrite .wrw]
  | .wrblk a bytes =>
    [.write 0x001 a, .write 0x002 (BitVec.ofNat 8 bytes.length)] ++ bufWrites 0 bytes ++ [startWrite .wrblk]
  | .dump => [startWrite .dump]
  | .config => [startWrite .config]
  | .txcycle bytes =>
    [.write 0x002 (BitVec.ofNat 8 bytes.length)] ++ bufWrites 0 bytes ++ [startWrite .txcycle]

/-- The expansion of a term (R82): its host writes, then the `wait`, which is no command (R84). `gaps` lists how many steps
the block gets before each read of STATUS, the first one too (00_scope.md R14; log entry 21). -/
def expand (c : AsmCmd) (gaps : List Nat) : List Turn := hostWrites c ++ waitTurns gaps

end Sys2Proof.Machine
end

