-- ==== Sys2Proof/Machine/Wire.lean ====
section
/-! DEFINITION. The wire below the frame: bits and pin levels (20_memory.md R59, 30_encoding.md R78,
70_reset_and_hazards.md R217) and the durations of R216. No rule of the block reads any of it. PRESUMED (log
entry 20): when each bit stands on the pins in SPI mode 0, which R217 marks as general knowledge. -/
namespace Sys2Proof.Machine

/-- The bits of a byte in wire order (R59). -/
def bitsOf : BitOrder → Byte → List Bool
  | .msbFirst, b => [b.getLsbD 7, b.getLsbD 6, b.getLsbD 5, b.getLsbD 4, b.getLsbD 3, b.getLsbD 2, b.getLsbD 1, b.getLsbD 0]
  | .lsbFirst, b => [b.getLsbD 0, b.getLsbD 1, b.getLsbD 2, b.getLsbD 3, b.getLsbD 4, b.getLsbD 5, b.getLsbD 6, b.getLsbD 7]

/-- The byte whose wire order these eight bits are. -/
def byteOf (o : BitOrder) (bits : List Bool) : Byte :=
  (match o with
    | .msbFirst => bits
    | .lsbFirst => bits.reverse).foldl (fun b bit => (b <<< 1) ||| bitAt 0 bit) 0x00

/-- The levels of the four lines of the SPI port at one instant. -/
structure PinSample where
  cs : Bool
  sck : Bool
  mosi : Bool
  miso : Bool
deriving DecidableEq, Repr

/-- One bit each way in mode 0, the block's and the radio's: both stand before the rising edge of SCK that samples them
(R217). -/
def bitPins (active : Bool) (b : Bool × Bool) : List PinSample :=
  [⟨active, false, b.1, b.2⟩, ⟨active, true, b.1, b.2⟩]

/-- The bits of a list of bytes in wire order. -/
def bytesBits (o : BitOrder) (bytes : List Byte) : List Bool := bytes.flatMap (bitsOf o)

/-- The bits of a frame on MOSI and MISO, position by position, both in `BIT_ORDER` (R59, 00_scope.md R12). -/
def frameBits (o : BitOrder) (tx rx : List Byte) : List (Bool × Bool) := (bytesBits o tx).zip (bytesBits o rx)

/-- One frame, `tx` on MOSI and `rx` on MISO: chip select holds for all its bits, then falls back, SCK at rest and both
data lines at any level (R37, R64). -/
def framePins (p : Params) (idle : Bool × Bool) (tx rx : List Byte) : List PinSample :=
  (frameBits p.bitOrder tx rx).flatMap (bitPins p.csActive) ++ [⟨!p.csActive, false, idle.1, idle.2⟩]

/-- The bits of both data lines sampled at rising edges of SCK while chip select is active, cut into frames where chip
select falls back (R78). `last` is the SCK level before, `acc` the bits of the frame so far. -/
def sampleFrames (active : Bool) : Bool → List (Bool × Bool) → List PinSample → List (List (Bool × Bool))
  | _, _, [] => []
  | last, acc, x :: xs =>
    if x.cs = active then
      sampleFrames active x.sck (if x.sck && !last then acc ++ [(x.mosi, x.miso)] else acc) xs
    else if acc = [] then sampleFrames active x.sck [] xs
    else acc :: sampleFrames active x.sck [] xs

/-- Eight bits a byte, in wire order. -/
def bytesOf (o : BitOrder) : List Bool → List Byte
  | b0 :: b1 :: b2 :: b3 :: b4 :: b5 :: b6 :: b7 :: rest =>
    byteOf o [b0, b1, b2, b3, b4, b5, b6, b7] :: bytesOf o rest
  | _ => []

/-- The bytes on MOSI and on MISO of a frame's sampled bits. -/
def frameBytes (o : BitOrder) (bits : List (Bool × Bool)) : List Byte × List Byte :=
  (bytesOf o (bits.map Prod.fst), bytesOf o (bits.map Prod.snd))

/-- The frames a bit-level decoder of the wire finds from the four lines alone, each as the bytes sent and the bytes
received (R78). -/
def wireFrames (p : Params) (pins : List PinSample) : List (List Byte × List Byte) :=
  (sampleFrames p.csActive false [] pins).map (frameBytes p.bitOrder)

/-- The direction bit by which the radio demultiplexes a frame: true is a write (R52). -/
def frameIsWrite (tx : List Byte) : Bool := (tx.headD 0x00).getLsbD 7

/-- The device address a frame carries (R52). -/
def frameAddr (tx : List Byte) : DevAddr := (tx.headD 0x00).extractLsb' 0 7

/-- The least duration of a frame of `n` bytes in microseconds: 8 bits a byte at 500 kHz (R216). -/
def frameMicros (n : Nat) : Nat := n * (8 * (1000000 / Config.sckHz))

/-- The least duration of a history entry in microseconds (R16, R216). A failed frame has none given. -/
def HistEntry.minMicros : HistEntry → Nat
  | .frame tx _ => frameMicros tx.length
  | .fail _ => 0
  | .rst _ => 0
  | .delay ms => ms * 1000
  | .evt _ => 0

/-- The least duration of a history in microseconds. -/
def historyMicros (h : List HistEntry) : Nat := (h.map HistEntry.minMicros).sum

end Sys2Proof.Machine
end

