-- ==== Sys2Proof/Safety.lean ====
section
/-! DEFINITION. The terms in which claims speak: runs, the wire's history, and the invariant of the machine. -/
namespace Sys2Proof.Machine

/-- `n` steps, stopping at the first fault or refusal. -/
def stepN : Nat → State → Result
  | 0, s => .next s
  | n + 1, s =>
    match step s with
    | .next t => stepN n t
    | .fault r => .fault r
    | .refused r => .refused r

/-- The state after a successful frame, as R114 and R37 give it: the entry in the history, the device after the
transfer, chip select inactive, SCK at rest, and any level `m` on MOSI. -/
def State.afterFrame (tx rx : List Byte) (m : Bool) (s : State) : State :=
  { s with
    history := s.history ++ [.frame tx rx]
    device := s.deviceAfter tx
    cs := !s.params.csActive
    sck := false
    mosi := m }

/-- The state after a failed frame, as R114 and R172 give it: the same lines, and the command aborted with BUS. -/
def State.afterFail (tx : List Byte) (m : Bool) (s : State) : State :=
  { s with
    history := s.history ++ [.fail tx]
    device := s.deviceAfter tx
    cs := !s.params.csActive
    sck := false
    mosi := m
    errcode := .bus
    stErr := true
    stDone := true
    stBusy := false
    cur := none
    k := 0
    dly := false
    ts := .idle }

/-- A history entry without the bytes received, which are the radio's. -/
def HistEntry.sent : HistEntry → HistEntry
  | .frame tx _ => .frame tx []
  | .fail tx => .fail tx
  | .rst level => .rst level
  | .delay ms => .delay ms
  | .evt e => .evt e

/-- What the block did, in order: a history without the bytes received. -/
def sentOf (h : List HistEntry) : List HistEntry := h.map HistEntry.sent

/-- Whether an entry is a frame, successful or failed. -/
def HistEntry.isFrame : HistEntry → Bool
  | .frame _ _ => true
  | .fail _ => true
  | .rst _ => false
  | .delay _ => false
  | .evt _ => false

/-- Every piece of state of the block that has one holds its reset value (R203). -/
def State.AtResetValues (s : State) : Prop :=
  s.opLast = 0x0 ∧ s.addr = 0x00 ∧ s.len = 0x00 ∧ s.dataLo = 0x00 ∧ s.dataHi = 0x00 ∧
  s.stBusy = true ∧ s.stDone = false ∧ s.stErr = false ∧ s.stOvr = false ∧ s.stReady = false ∧
  s.errcode = .noError ∧ s.pollcnt = 0x0000 ∧ s.lastirq = 0x00 ∧ s.buf = [] ∧ s.rs = .opening ∧ s.ts = .idle ∧
  s.cur = none ∧ s.k = 0 ∧ s.dly = false ∧ s.nclear = 0 ∧ s.cs = (!s.params.csActive) ∧ s.rstDev = true ∧
  s.sck = false ∧ s.evtValid = false ∧ s.history = []

/-- The invariant of the machine (10_state.md R27-R32, R37; 60_exceptions.md R172, R173; 70_reset_and_hazards.md
R200-R203): every state a run from reset reaches has it. -/
structure State.Inv (s : State) : Prop where
  /-- BUF is canonical. -/
  buf_wf : Memory.wf none Config.bufSize s.buf = true
  /-- The radio's own data is canonical. -/
  device_wf : s.device.wf = true
  /-- BUSY holds exactly during the reset sequence and while a command runs (R27). -/
  busy_iff : s.stBusy = true ↔ s.rs = .opening ∨ s.rs = .low ∨ s.rs = .high ∨ s.cur ≠ none
  /-- READY holds exactly once the reset sequence has completed without error (R27). -/
  ready_iff : s.stReady = true ↔ s.rs = .ready
  /-- A running command is the last accepted one, it is no reserved opcode, and the block is ready (R22, R171, R173). -/
  running : ∀ op, s.cur = some op → s.rs = .ready ∧ s.opLast = op ∧ decodeOp op ≠ none
  /-- While a command runs, nothing of it is reported yet (R25, R27). -/
  busy_clear : s.stBusy = true → s.stDone = false ∧ s.stErr = false ∧ s.errcode = .noError
  /-- ERR stands beside a code (R28). -/
  err_code : s.stErr = true → s.errcode ≠ .noError
  /-- TIMEOUT needs a poll bound (R170). -/
  timeout_bound : s.errcode = .timeout → s.params.pollLimit ≠ none
  /-- Only TXCYCLE leaves IDLE (R117, R143). -/
  ts_idle : s.ts ≠ .idle → s.cur = some (opcodeOf .txcycle)
  /-- `k` is 0 when nothing runs (R172, R115). -/
  k_idle : s.cur = none → s.k = 0
  /-- DUMP's next address is 0x00-0x42 between micro-steps (R31). -/
  k_dump : s.cur = some (opcodeOf .dump) → s.k ≤ Config.dumpLast
  /-- CONFIG's next frame is 0-2 between micro-steps (R31). -/
  k_config : s.cur = some (opcodeOf .config) → s.k < 3
  /-- TXCYCLE's next LOADING frame is 1-4 in LOADING (R31). -/
  k_loading : s.ts = .loading → 1 ≤ s.k ∧ s.k ≤ 4
  /-- A pending poll delay follows a poll of AWAITING that observed the flag clear (R148). -/
  dly_awaiting : s.dly = true → s.ts = .awaiting ∧ txDoneFlag s.lastirq = false
  /-- Between micro-steps chip select is inactive and SCK rests at 0 (R37). -/
  lines : s.cs = (!s.params.csActive) ∧ s.sck = false
  /-- The radio's reset line is low exactly in RS_LOW (R200). -/
  rst_line : s.rstDev = false ↔ s.rs = .low
  /-- The low hold has elapsed only in RS_LOW. -/
  low_held : s.lowHeld = true → s.rs = .low
  /-- While `rst_n` is 0, every piece of state of the block holds its reset value (R200). -/
  held : s.rstN = false → s.AtResetValues

end Sys2Proof.Machine
end

