-- ==== Sys2Proof/Certificates/Slice0/Obligations.lean ====
section
/-! DEFINITION. What is stated of the machine. A micro-step of a command is stated as the exact next state: every
field the record update does not name is unchanged. `s.answer tx` is the radio's answer to the frame `tx`, any bytes
of the frame's length or a failure, and the level `m` left on MOSI is any level. Two clauses recur that are no rule of
the spec and for which none is cited: SCK at rest is 0 after a frame (a passage 93_implementation_defined.md G1 marks
as general knowledge, log entry 20), and a step ends the event strobe of the step before and leaves
`evt_code` (log entries 7, 23), and `mosi` holds its level until the next frame's end or block reset (log entry 24). -/
open Sys2Proof Sys2Proof.Machine

/-! ### Encodings -/

/-- 30_encoding.md R71: the command bytes of the nine commands. -/
def Obligations.CommandBytesDecodeByTheOpcodeMap : Prop :=
  decode [0x01] = .ok (.rdb, []) ∧ decode [0x02] = .ok (.rdw, []) ∧ decode [0x03] = .ok (.rdblk, []) ∧
  decode [0x05] = .ok (.wrb, []) ∧ decode [0x06] = .ok (.wrw, []) ∧ decode [0x07] = .ok (.wrblk, []) ∧
  decode [0x08] = .ok (.dump, []) ∧ decode [0x09] = .ok (.config, []) ∧ decode [0x0A] = .ok (.txcycle, []) ∧
  (∀ op : Opcode, decode [op.setWidth 8] = .error (.reservedOp op) ↔
    op = 0x0 ∨ op = 0x4 ∨ op = 0xB ∨ op = 0xC ∨ op = 0xD ∨ op = 0xE ∨ op = 0xF)

/-- 30_encoding.md R73: CMD[7:4] is ignored on decode and on a host write, and `op_last` keeps the low half. -/
def Obligations.CommandBitsSevenToFourAreIgnored : Prop :=
  (∀ (w : Byte) (rest : List Byte), decode (w :: rest) = decode ((w &&& 0x0F) :: rest)) ∧
  (∀ r ∈ opcodeTable, r.mask = 0x0F) ∧
  (∀ (w : Byte) (s : State), s.hostWrite 0x000 w = s.hostWrite 0x000 (w &&& 0x0F)) ∧
  (∀ (w : Byte) (s : State), s.rstN = true → s.stBusy = false →
    (s.hostWrite 0x000 w).opLast = w.extractLsb' 0 4)

/-- Decoding an encoded command gives it back with the bytes that follow, and only bytes with the command's opcode
in their low half decode to it (R71, R73). -/
def Obligations.DecodeAndEncodeAgree : Prop :=
  ∀ (i : Instr) (rest : List Byte),
    decode (encode i ++ rest) = .ok (i, rest) ∧
    ∀ (b : Byte) (r : List Byte), decode (b :: rest) = .ok (i, r) ↔ b.extractLsb' 0 4 = opcodeOf i ∧ r = rest

/-- 30_encoding.md R75: the header carries the address in bits 6:0 and the direction in bit 7, and the radio reads
both back from it. -/
def Obligations.HeaderCarriesAddressAndDirection : Prop :=
  ∀ (a : Byte) (data : List Byte),
    hdr false a = a &&& 0x7F ∧ hdr true a = a ||| 0x80 ∧ hdr true a = (a &&& 0x7F) ||| 0x80 ∧
    frameIsWrite (hdr false a :: data) = false ∧ frameIsWrite (hdr true a :: data) = true ∧
    frameAddr (hdr false a :: data) = a.extractLsb' 0 7 ∧ frameAddr (hdr true a :: data) = a.extractLsb' 0 7

/-- A bit-level decoder that sees the four lines alone recovers what every frame of a sequence sent on MOSI and received
on MISO, for either bit order and either chip-select polarity, whatever stands on the data lines after each frame
(20_memory.md R59, 30_encoding.md R78; log entry 20: the mode 0 pin sequence is general knowledge). -/
def Obligations.WireDecoderRecoversEveryFrame : Prop :=
  ∀ (p : Params) (frames : List ((List Byte × List Byte) × (Bool × Bool))),
    (∀ f ∈ frames, f.1.1 ≠ [] ∧ f.1.2.length = f.1.1.length) →
    wireFrames p (frames.flatMap fun f => framePins p f.2 f.1.1 f.1.2) = frames.map Prod.fst

/-! ### The step -/

/-- A step of a ready block with a command runs that command's meaning at the state in which the turn is taken, the
step counted and the event strobe ended; a step whose turn is a host write is that write; a host write beside
any micro-step of a busy block acts first (the model's choice: log entries 7, 9, 10, 12); and the command a fetch word loads is the one the
next step runs (00_scope.md R9, R14). -/
def Obligations.StepRunsTheRunningCommand : Prop :=
  (∀ (s : State) (op : Opcode) (i : Instr),
    s.rstN = true → s.rs = .ready → s.cur = some op → decodeOp op = some i →
    (s.turns.headD .block = .block →
      step s = exec i { s with turns := s.turns.drop 1, tick := s.tick + 1, evtValid := false }) ∧
    (∀ (a : HostAddr) (v : Byte), s.turns.head? = some (.blockAndWrite a v) → s.stBusy = true →
      step s = exec i
        (({ s with turns := s.turns.drop 1, tick := s.tick + 1, evtValid := false } : State).hostWrite a v))) ∧
  (∀ (s : State) (a : HostAddr) (v : Byte) (rest : List Turn),
    (s.turns = .write a v :: rest →
      step s = .next
        (({ s with turns := rest, tick := s.tick + 1, evtValid := false } : State).hostWrite a v)) ∧
    (s.turns = .blockAndWrite a v :: rest → s.stBusy = false →
      step s = .next
        (({ s with turns := rest, tick := s.tick + 1, evtValid := false } : State).hostWrite a v)) ∧
    (s.turns = .blockAndWrite a v :: rest → s.stBusy = true →
      step s = step { s.hostWrite a v with turns := .block :: rest })) ∧
  (∀ (s : State) (nbits w : Nat) (i : Instr), decodeTableWord nbits w = some i →
    step (s.withFetchWord nbits w) =
      exec i { s.withFetchWord nbits w with turns := s.turns, tick := s.tick + 1, evtValid := false })

/-- An idle block waits: its step changes nothing but the turn, the step counter and the strobe (70_reset_and_hazards.md
R204). -/
def Obligations.IdleBlockWaits : Prop :=
  ∀ s : State, s.rs = .ready ∨ s.rs = .failed → s.cur = none → s.turns.headD .block = .block →
    step s = .next { s with turns := s.turns.drop 1, tick := s.tick + 1, evtValid := false }

/-! ### Reset -/

/-- The reset values that 70_reset_and_hazards.md R203 gives (the free ones, BUF, `mosi` and the radio, have none). -/
def Obligations.ResetStateHoldsTheResetValues : Prop :=
  let s := State.reset
  s.opLast = 0x0 ∧ s.addr = 0x00 ∧ s.len = 0x00 ∧ s.dataLo = 0x00 ∧ s.dataHi = 0x00 ∧ s.statusByte = 0x01 ∧
  s.errcode = .noError ∧ s.ts = .idle ∧ s.pollcnt = 0x0000 ∧ s.lastirq = 0x00 ∧ s.buf = [] ∧ s.rs = .opening ∧
  s.cur = none ∧ s.k = 0 ∧ s.dly = false ∧ s.nclear = 0 ∧ s.cs = (!s.params.csActive) ∧ s.rstDev = true ∧
  s.sck = false ∧ s.evtValid = false ∧ s.history = []

/-- 70_reset_and_hazards.md R200: while `rst_n` is 0 the block takes no step; after release each of S0 to S3 is one
micro-step of the block, whatever turns the host takes between them (the bit that tells S1 from S2: log entry 8; the
draw INIT_OK, listed or free: log entry 2; the strobe's end: log entries 7, 23). With a silent host (log entry 9) the
four run in order with the history RST(0), DELAY(10), RST(1), DELAY(10), no frame, chip select as it was, and the block
ready at the end. -/
def Obligations.ResetSequenceRunsS0ToS3 : Prop :=
  (∀ s : State, s.rstN = false → s.turns.headD .block = .block →
    step s = .next { s with turns := s.turns.drop 1, tick := s.tick + 1, evtValid := false }) ∧
  (∀ s : State, s.rstN = true → s.turns.headD .block = .block →
    (s.rs = .opening → s.inits.headD (Config.initOk (s.tick + 1)) = true →
      step s = .next { s with
        turns := s.turns.drop 1, tick := s.tick + 1, evtValid := false, inits := s.inits.drop 1,
        rs := .low, rstDev := false, history := s.history ++ [.rst false] }) ∧
    (s.rs = .low → s.lowHeld = false →
      step s = .next { s with
        turns := s.turns.drop 1, tick := s.tick + 1, evtValid := false, lowHeld := true,
        history := s.history ++ [.delay 10] }) ∧
    (s.rs = .low → s.lowHeld = true →
      step s = .next { s with
        turns := s.turns.drop 1, tick := s.tick + 1, evtValid := false, lowHeld := false,
        rs := .high, rstDev := true, history := s.history ++ [.rst true] }) ∧
    (s.rs = .high →
      step s = .next { s with
        turns := s.turns.drop 1, tick := s.tick + 1, evtValid := false,
        rs := .ready, stBusy := false, stReady := true, history := s.history ++ [.delay 10] })) ∧
  (∀ s : State, s.rstN = true → s.rs = .opening → s.lowHeld = false → s.turns = [] →
    s.inits.headD (Config.initOk (s.tick + 1)) = true →
    stepN 4 s = .next { s with
      tick := s.tick + 4, evtValid := false, inits := s.inits.drop 1, rs := .ready, rstDev := true, stBusy := false,
      stReady := true, history := s.history ++ [.rst false, .delay 10, .rst true, .delay 10] })

/-- 70_reset_and_hazards.md R201: a failed opening leaves ERR and INIT and drives no pulse, and the block stays failed
until the next block reset (the draw INIT_OK, listed or free: log entry 2; the strobe's end: log entries 7, 23). -/
def Obligations.FailedOpeningLeavesInitError : Prop :=
  (∀ s : State, s.rstN = true → s.rs = .opening → s.turns.headD .block = .block →
    s.inits.headD (Config.initOk (s.tick + 1)) = false →
    step s = .next { s with
      turns := s.turns.drop 1, tick := s.tick + 1, evtValid := false, inits := s.inits.drop 1, rs := .failed,
      stBusy := false, stErr := true, stReady := false, errcode := .init }) ∧
  (∀ s t : State, s.rs = .failed → step s = .next t →
    t.rs = .failed ∨ s.turns.head? = some (.rstN false))

/-- 70_reset_and_hazards.md R202: `rst_n` low takes all state to its reset value at a micro-step boundary, the radio
keeps its state, and nothing else the host does ends a running command. (The registers of the host port that have no
reset value in the spec, log entry 6, take any value.) -/
def Obligations.BlockResetAtAnyBoundary : Prop :=
  (∀ (s : State) (rest : List Turn), s.turns = .rstN false :: rest →
    ∃ (m : Bool) (e : Event) (d : Byte), step s = .next { State.reset with
      rstN := false, params := s.params, cs := !s.params.csActive, mosi := m, evtCode := e, hRdata := d,
      device := s.device, bufDraw := s.tick + 1, inits := s.inits, turns := rest, tick := s.tick + 1 }) ∧
  (∀ (s t : State) (a : HostAddr) (v : Byte) (rest : List Turn), s.stBusy = true →
    (s.turns = .write a v :: rest ∨ s.turns = .read a :: rest ∨ (∃ gaps, s.turns = .wait gaps :: rest) ∨
      s.turns = .rstN true :: rest) →
    step s = .next t → t.cur = s.cur ∧ t.k = s.k ∧ t.ts = s.ts ∧ t.dly = s.dly ∧ t.stBusy = true)

/-! ### The host port -/

/-- 10_state.md R25: a write to CMD is accepted exactly when BUSY is 0; an accepted command starts with these values,
and a write while BUSY changes nothing but OVR. -/
def Obligations.CommandWriteIsAcceptedExactlyWhenIdle : Prop :=
  ∀ (s : State) (w : Byte) (rest : List Turn), s.rstN = true → s.turns = .write 0x000 w :: rest →
    (s.stBusy = false → s.rs ≠ .failed → decodeOp (w.extractLsb' 0 4) ≠ none →
      step s = .next { s with
        turns := rest, tick := s.tick + 1, evtValid := false, opLast := w.extractLsb' 0 4, stDone := false,
        stErr := false, errcode := .noError, stBusy := true, cur := some (w.extractLsb' 0 4), k := 0 }) ∧
    (s.stBusy = true →
      step s = .next { s with turns := rest, tick := s.tick + 1, evtValid := false, stOvr := true })

/-- 60_exceptions.md R171: an accepted reserved opcode completes in its acceptance micro-step with ILLEGAL_OP, with no
frame, no event and no other change (the strobe's end: log entries 7, 23). -/
def Obligations.ReservedOpcodeEndsInIllegalOp : Prop :=
  ∀ (s : State) (w : Byte) (rest : List Turn), s.rstN = true → s.turns = .write 0x000 w :: rest →
    s.stBusy = false → s.rs ≠ .failed →
    w.extractLsb' 0 4 ∈ ([0x0, 0x4, 0xB, 0xC, 0xD, 0xE, 0xF] : List Opcode) →
    step s = .next { s with
      turns := rest, tick := s.tick + 1, evtValid := false, opLast := w.extractLsb' 0 4, errcode := .illegalOp,
      stErr := true, stDone := true, stBusy := false, cur := none, k := 0, dly := false, ts := .idle }

/-- 60_exceptions.md R173: after a failed reset sequence BUSY and READY are 0, and every CMD write, whatever its OP,
completes at once with INIT and no frame (the strobe's end: log entries 7, 23). -/
def Obligations.FailedBlockAnswersInit : Prop :=
  (∀ s : State, s.Inv → s.rs = .failed → s.stBusy = false ∧ s.stReady = false) ∧
  (∀ (s : State) (w : Byte) (rest : List Turn), s.rstN = true → s.turns = .write 0x000 w :: rest →
    s.stBusy = false → s.rs = .failed →
    step s = .next { s with
      turns := rest, tick := s.tick + 1, evtValid := false, opLast := w.extractLsb' 0 4, errcode := .init,
      stErr := true, stDone := true, stBusy := false, cur := none, k := 0, dly := false, ts := .idle })

/-- 10_state.md R34: a host write to CMD, an operand register or BUF while BUSY sets OVR and does nothing else; a
write to a read-only register never has an effect. -/
def Obligations.BusyWritesAreIgnoredAndSetOvr : Prop :=
  ∀ (s : State) (a : HostAddr) (v : Byte), s.rstN = true →
    (s.stBusy = true → (a.toNat ≤ 0x004 ∨ 0x100 ≤ a.toNat) → s.hostWrite a v = { s with stOvr := true }) ∧
    (a = 0x005 → s.hostWrite a v = { s with
      stDone := s.stDone && !v.getLsbD 1, stErr := s.stErr && !v.getLsbD 2, stOvr := s.stOvr && !v.getLsbD 3 }) ∧
    (0x006 ≤ a.toNat → a.toNat ≤ 0x00A → s.hostWrite a v = s)

/-- The STATUS register (10_state.md R27): what it reads as, and that where a STATUS write falls in the micro-step that
sets DONE (a completion) or ERR (an abort, or a failed opening), the bit ends set, whatever the write clears; OVR, which
no micro-step sets, follows the write. -/
def Obligations.StatusReadsItsBitsAndTheSetWins : Prop :=
  (∀ s : State, s.readReg 0x005 = s.statusByte ∧
    s.statusByte.getLsbD 0 = s.stBusy ∧ s.statusByte.getLsbD 1 = s.stDone ∧ s.statusByte.getLsbD 2 = s.stErr ∧
    s.statusByte.getLsbD 3 = s.stOvr ∧ s.statusByte.getLsbD 4 = s.stReady ∧ s.statusByte.extractLsb' 5 3 = 0) ∧
  (∀ (s t : State) (v : Byte) (rest : List Turn), s.Inv → s.turns = .blockAndWrite 0x005 v :: rest →
    step s = .next t →
    (s.cur ≠ none → t.stBusy = false → t.stDone = true) ∧
    (s.cur ≠ none → t.errcode ≠ .noError → t.stErr = true) ∧
    (s.rs = .opening → t.rs = .failed → t.stErr = true) ∧
    t.stOvr = (s.stOvr && !v.getLsbD 3))

/-- 10_state.md R35: DATA_LO, DATA_HI and BUF read as a free value while BUSY and as they are otherwise, every other
register always as it is, and a read changes nothing but the read-data port (the free value, drawn at the step: log entry
4; the strobe's end: log entries 7, 23). -/
def Obligations.HostReadsHaveNoSideEffects : Prop :=
  ∀ (s : State) (a : HostAddr) (rest : List Turn), s.turns = .read a :: rest →
    ∃ d : Byte, step s = .next { s with turns := rest, tick := s.tick + 1, evtValid := false, hRdata := d } ∧
      (s.stBusy = true → a = 0x003 ∨ a = 0x004 ∨ 0x100 ≤ a.toNat → d = Config.busyRead (s.tick + 1)) ∧
      (s.stBusy = false → d = s.readReg a) ∧
      (a ≠ 0x003 → a ≠ 0x004 → a.toNat < 0x100 → d = s.readReg a)

/-- The host loop `wait` (30_encoding.md R82; its turns are the model's choice, log entries 9, 21): a round reads STATUS;
while BUSY is 1 the block gets its steps and the loop goes on, and once BUSY is 0 it ends. -/
def Obligations.WaitReadsStatusUntilTheBlockIsIdle : Prop :=
  ∀ (s : State) (gaps : List Nat) (rest : List Turn), s.turns = .wait gaps :: rest →
    (s.stBusy = true →
      step s = .next { s with
        turns := List.replicate (gaps.headD 1) .block ++ .wait (gaps.drop 1) :: rest,
        tick := s.tick + 1, evtValid := false, hRdata := s.statusByte }) ∧
    (s.stBusy = false →
      step s = .next { s with
        turns := rest, tick := s.tick + 1, evtValid := false, hRdata := s.statusByte })

/-- The host register map as an idle block reads it (10_state.md R21-R30, R32): the registers with no free read, DATA
and BUF, and the codes of ERRCODE and TXSTATE. -/
def Obligations.HostRegisterMapReadsTheState : Prop :=
  ∀ s : State,
    s.readReg 0x000 = s.opLast.setWidth 8 ∧ s.readReg 0x001 = s.addr ∧ s.readReg 0x002 = s.len ∧
    (s.stBusy = false → s.readReg 0x003 = s.dataLo ∧ s.readReg 0x004 = s.dataHi) ∧
    (s.readReg 0x006 = match s.errcode with
      | .noError => 0x00 | .init => 0x01 | .bus => 0x02 | .illegalOp => 0x03 | .timeout => 0x04) ∧
    (s.readReg 0x007 = match s.ts with
      | .idle => 0x00 | .loading => 0x01 | .transmitting => 0x02 | .awaiting => 0x03 | .done => 0x04) ∧
    (s.readReg 0x009 ++ s.readReg 0x008 : BitVec 16) = s.pollcnt ∧ s.readReg 0x00A = s.lastirq ∧
    (∀ i : Byte, s.stBusy = false → s.readReg (0x100 + i.setWidth 9) = s.bufByte i.toNat)

/-- 10_state.md R33: the reserved host addresses read as 0 and a write to them does nothing. -/
def Obligations.ReservedHostAddressesAreInert : Prop :=
  ∀ (s : State) (a : HostAddr) (v : Byte), 0x00B ≤ a.toNat → a.toNat ≤ 0x0FF →
    s.readReg a = 0x00 ∧ s.hostWrite a v = s

/-- An idle block stores a host write to an operand register or BUF byte, and to nothing else (10_state.md R21, R23,
R24, R26, R32). -/
def Obligations.IdleHostWritesStoreTheByte : Prop :=
  ∀ (s : State) (v : Byte), s.rstN = true → s.stBusy = false →
    s.hostWrite 0x001 v = { s with addr := v } ∧ s.hostWrite 0x002 v = { s with len := v } ∧
    s.hostWrite 0x003 v = { s with dataLo := v } ∧ s.hostWrite 0x004 v = { s with dataHi := v } ∧
    ∀ i : Byte, ∃ b : Memory, s.hostWrite (0x100 + i.setWidth 9) v = { s with buf := b } ∧
      ∀ j : Nat, ({ s with buf := b } : State).bufByte j = if j = i.toNat then v else s.bufByte j

/-- OVR (60_exceptions.md R180): only a write of 1 to its bit, or block reset, clears it. -/
def Obligations.OnlyWriteOneOrResetClearsOvr : Prop :=
  ∀ s t : State, step s = .next t → s.stOvr = true → t.stOvr = false →
    (∃ (v : Byte), v.getLsbD 3 = true ∧
      (s.turns.head? = some (.write 0x005 v) ∨ s.turns.head? = some (.blockAndWrite 0x005 v))) ∨
    s.turns.head? = some (.rstN false)

/-! ### RegisterBus commands -/

/-- 40_register_bus.md R101 (and R100): RDB sends the masked address and a filler, DATA_LO takes `rx[1]`, DATA_HI 0;
a failed frame aborts with BUS and writes no data register. -/
def Obligations.RdbReadsTheSecondByte : Prop :=
  ∀ s : State, (s.addr &&& 0x7F).getLsbD 7 = false ∧
    (∀ rx, s.answer [s.addr &&& 0x7F, 0x00] = some rx → ∃ x b m, rx = [x, b] ∧
      exec .rdb s = .next { s.afterFrame [s.addr &&& 0x7F, 0x00] rx m with
        dataLo := b, dataHi := 0x00, stBusy := false, stDone := true, cur := none, k := 0, ts := .idle }) ∧
    (s.answer [s.addr &&& 0x7F, 0x00] = none → ∃ m,
      exec .rdb s = .next (s.afterFail [s.addr &&& 0x7F, 0x00] m))

/-- 40_register_bus.md R103 (and R102): for received bytes `[x, hi, lo]` RDW's result is `(hi << 8) | lo` for every x. -/
def Obligations.RdwAssemblesHighByteFirst : Prop :=
  ∀ s : State,
    (∀ rx, s.answer [s.addr &&& 0x7F, 0x00, 0x00] = some rx → ∃ x hi lo m, rx = [x, hi, lo] ∧
      exec .rdw s = .next { s.afterFrame [s.addr &&& 0x7F, 0x00, 0x00] rx m with
        dataHi := hi, dataLo := lo, stBusy := false, stDone := true, cur := none, k := 0, ts := .idle } ∧
      hostWord hi lo = (hi.setWidth 16 <<< 8) ||| lo.setWidth 16) ∧
    (s.answer [s.addr &&& 0x7F, 0x00, 0x00] = none → ∃ m,
      exec .rdw s = .next (s.afterFail [s.addr &&& 0x7F, 0x00, 0x00] m))

/-- 40_register_bus.md R105 (and R104): after RDBLK exactly BUF[0..N-1] are written, with `rx[1..N]`; no other field
changes but the completion's and the wire's; a failed frame leaves BUF. -/
def Obligations.RdblkWritesExactlyNBytes : Prop :=
  ∀ s : State,
    let tx := (s.addr &&& 0x7F) :: List.replicate s.len.toNat 0x00
    (∀ rx, s.answer tx = some rx → rx.length = s.len.toNat + 1 ∧ ∃ (b : Memory) (m : Bool),
      exec .rdblk s = .next { s.afterFrame tx rx m with
        buf := b, stBusy := false, stDone := true, cur := none, k := 0, ts := .idle } ∧
      ∀ j : Nat, ({ s with buf := b } : State).bufByte j =
        if j < s.len.toNat then rx.getD (j + 1) 0x00 else s.bufByte j) ∧
    (s.answer tx = none → ∃ m, exec .rdblk s = .next (s.afterFail tx m))

/-- 40_register_bus.md R106: WRB sends the write header and DATA_LO, and writes no host data register. -/
def Obligations.WrbSendsTheByte : Prop :=
  ∀ s : State,
    (∀ rx, s.answer [s.addr ||| 0x80, s.dataLo] = some rx → ∃ m,
      exec .wrb s = .next { s.afterFrame [s.addr ||| 0x80, s.dataLo] rx m with
        stBusy := false, stDone := true, cur := none, k := 0, ts := .idle }) ∧
    (s.answer [s.addr ||| 0x80, s.dataLo] = none → ∃ m,
      exec .wrb s = .next (s.afterFail [s.addr ||| 0x80, s.dataLo] m))

/-- 40_register_bus.md R109 (and R108): WRW's bytes after the header are `V & 0xFF` and `(V >> 8) & 0xFF`, which are
DATA_LO and DATA_HI, and the header has bit 7 set. -/
def Obligations.WrwSendsLowByteFirst : Prop :=
  ∀ s : State,
    let v := hostWord s.dataHi s.dataLo
    let tx := [s.addr ||| 0x80, (v &&& 0xFF).setWidth 8, ((v >>> 8) &&& 0xFF).setWidth 8]
    tx = [s.addr ||| 0x80, s.dataLo, s.dataHi] ∧ (s.addr ||| 0x80).getLsbD 7 = true ∧
    (∀ rx, s.answer tx = some rx → ∃ m,
      exec .wrw s = .next { s.afterFrame tx rx m with
        stBusy := false, stDone := true, cur := none, k := 0, ts := .idle }) ∧
    (s.answer tx = none → ∃ m, exec .wrw s = .next (s.afterFail tx m))

/-- 40_register_bus.md R111 (and R110): WRBLK's frame is `1 + N` bytes, its header has bit 7 set, and its bytes 1..N
are BUF[0..N-1] in order. -/
def Obligations.WrblkSendsTheBufferInOrder : Prop :=
  ∀ s : State, ∃ tx : List Byte,
    tx.length = 1 + s.len.toNat ∧ tx[0]? = some (s.addr ||| 0x80) ∧ (s.addr ||| 0x80).getLsbD 7 = true ∧
    (∀ j : Nat, j < s.len.toNat → tx[j + 1]? = some (s.bufByte j)) ∧
    (∀ rx, s.answer tx = some rx → ∃ m,
      exec .wrblk s = .next { s.afterFrame tx rx m with
        stBusy := false, stDone := true, cur := none, k := 0, ts := .idle }) ∧
    (s.answer tx = none → ∃ m, exec .wrblk s = .next (s.afterFail tx m))

/-- One micro-step of DUMP at an address it reads (40_register_bus.md R112): the frame of address `k`, BUF[k] takes
`rx[1]`, and the command ends after address 0x42. -/
def Obligations.DumpReadsOneAddressAMicroStep : Prop :=
  ∀ s : State, s.k ≤ 0x42 →
    (∀ rx, s.answer [BitVec.ofNat 8 s.k, 0x00] = some rx → ∃ (x v : Byte) (b : Memory) (m : Bool), rx = [x, v] ∧
      (∀ j : Nat, ({ s with buf := b } : State).bufByte j = if j = s.k then v else s.bufByte j) ∧
      (s.k < 0x42 → exec .dump s = .next { s.afterFrame [BitVec.ofNat 8 s.k, 0x00] rx m with
        buf := b, k := s.k + 1 }) ∧
      (s.k = 0x42 → exec .dump s = .next { s.afterFrame [BitVec.ofNat 8 s.k, 0x00] rx m with
        buf := b, stBusy := false, stDone := true, cur := none, k := 0, ts := .idle })) ∧
    (s.answer [BitVec.ofNat 8 s.k, 0x00] = none → ∃ m,
      exec .dump s = .next (s.afterFail [BitVec.ofNat 8 s.k, 0x00] m))

/-- 40_register_bus.md R113, for any values the radio answers (a mock that answers each address with itself among
them): DUMP takes exactly 0x43 frames, one per address in ascending order, BUF[a] holds the value of address a, and
every other register is as before. The host is silent meanwhile (log entry 9; the strobe's end: log entries 7, 23). -/
def Obligations.DumpFillsTheBufferInFortyThreeHexFrames : Prop :=
  ∀ (s : State) (vals : List (Byte × Byte)) (more : List Reply),
    s.rstN = true → s.rs = .ready → s.stBusy = true → s.cur = some 0x8 → s.k = 0 → s.ts = .idle → s.turns = [] →
    vals.length = 0x43 → s.device = .unconstrained (vals.map (fun p => Reply.ok [p.1, p.2]) ++ more) →
    ∃ (b : Memory) (m : Bool), stepN 0x43 s = .next { s with
        tick := s.tick + 0x43, evtValid := false, buf := b, stBusy := false, stDone := true, cur := none,
        device := .unconstrained more, cs := !s.params.csActive, sck := false, mosi := m,
        history := s.history ++
          (List.range 0x43).map (fun a => .frame [BitVec.ofNat 8 a, 0x00]
            [(vals.getD a (0x00, 0x00)).1, (vals.getD a (0x00, 0x00)).2]) } ∧
      ∀ j : Nat, ({ s with buf := b } : State).bufByte j =
        if j < 0x43 then (vals.getD j (0x00, 0x00)).2 else s.bufByte j

/-! ### TransmitController commands -/

/-- The three micro-steps of CONFIG (41_transmit_controller.md R140). -/
def Obligations.ConfigSendsItsThreeFrames : Prop :=
  ∀ s : State,
    let frf : List Byte := [0x86, s.params.frfCode.extractLsb' 16 8, s.params.frfCode.extractLsb' 8 8,
      s.params.frfCode.extractLsb' 0 8]
    (s.k = 0 → ∀ rx, s.answer [0x81, 0x80] = some rx → ∃ m,
      exec .config s = .next { s.afterFrame [0x81, 0x80] rx m with k := 1 }) ∧
    (s.k = 1 → ∀ rx, s.answer frf = some rx → ∃ m,
      exec .config s = .next { s.afterFrame frf rx m with k := 2 }) ∧
    (s.k = 2 → ∀ rx, s.answer [0x89, 0x80] = some rx → ∃ m,
      exec .config s = .next { s.afterFrame [0x89, 0x80] rx m with
        stBusy := false, stDone := true, cur := none, k := 0, ts := .idle }) ∧
    (s.k = 0 → s.answer [0x81, 0x80] = none → ∃ m, exec .config s = .next (s.afterFail [0x81, 0x80] m)) ∧
    (s.k = 1 → s.answer frf = none → ∃ m, exec .config s = .next (s.afterFail frf m)) ∧
    (s.k = 2 → s.answer [0x89, 0x80] = none → ∃ m, exec .config s = .next (s.afterFail [0x89, 0x80] m))

/-- 41_transmit_controller.md R141: in every run of CONFIG, from its acceptance until BUSY falls, whatever the radio
answers, whichever frames fail and whatever turns the host takes, the successful sleep frame comes before any frequency
frame. -/
def Obligations.ConfigSleepsBeforeTheFrequencyWrite : Prop :=
  ∀ (s t : State) (n : Nat) (new : List HistEntry),
    s.rstN = true → s.rs = .ready → s.stBusy = true → s.cur = some 0x9 → s.k = 0 →
    (∀ m < n, ∃ u, stepN m s = .next u ∧ u.stBusy = true) → stepN n s = .next t → t.history = s.history ++ new →
    ∀ (before after : List HistEntry) (e : HistEntry), new = before ++ e :: after → e.isFrame = true →
      (∃ b2 b1 b0 rx, e = .frame [0x86, b2, b1, b0] rx ∨ e = .fail [0x86, b2, b1, b0]) →
      ∃ rx, before = [.frame [0x81, 0x80] rx]

/-- 41_transmit_controller.md R145: the micro-steps L1 to L4, with the FIFO TX base, the pointer, the payload and the
length in that order. -/
def Obligations.LoadingSendsBasePointerPayloadLength : Prop :=
  ∀ s : State,
    let payload := 0x80 :: (List.range s.len.toNat).map s.bufByte
    (s.ts = .idle → ∀ rx, s.answer [0x8E, 0x00] = some rx → ∃ m,
      exec .txcycle s = .next { s.afterFrame [0x8E, 0x00] rx m with
        ts := .loading, k := 1, evtValid := true, evtCode := .loading,
        history := s.history ++ [.evt .loading, .frame [0x8E, 0x00] rx] }) ∧
    (s.ts = .loading → s.k = 1 → ∀ rx, s.answer [0x8D, 0x00] = some rx → ∃ m,
      exec .txcycle s = .next { s.afterFrame [0x8D, 0x00] rx m with k := 2 }) ∧
    (s.ts = .loading → s.k = 2 → ∀ rx, s.answer payload = some rx → ∃ m,
      exec .txcycle s = .next { s.afterFrame payload rx m with k := 3 }) ∧
    (s.ts = .loading → s.k = 3 → ∀ rx, s.answer [0xA2, s.len] = some rx → ∃ m,
      exec .txcycle s = .next { s.afterFrame [0xA2, s.len] rx m with k := 4 })

/-- 41_transmit_controller.md R146: the micro-step T. -/
def Obligations.TransmittingWritesTheTransmitMode : Prop :=
  ∀ (s : State) (rx : List Byte), s.ts = .loading → s.k = 4 → s.answer [0x81, 0x83] = some rx → ∃ m,
    exec .txcycle s = .next { s.afterFrame [0x81, 0x83] rx m with
      ts := .transmitting, evtValid := true, evtCode := .transmitting,
      history := s.history ++ [.evt .transmitting, .frame [0x81, 0x83] rx] }

/-- 41_transmit_controller.md R147: one poll, from TRANSMITTING (the first, which zeroes the counters) or from AWAITING
with no delay pending and the last poll clear. Only bit 3 of the byte read decides. -/
def Obligations.PollReadsTheIrqFlags : Prop :=
  ∀ (s : State) (x f : Byte), s.answer [0x12, 0x00] = some [x, f] →
    s.ts = .transmitting ∨ (s.ts = .awaiting ∧ s.dly = false ∧ s.lastirq &&& 0x08 = 0x00) →
    ∃ (m : Bool) (pc : BitVec 16) (nc : Nat),
      (s.ts = .transmitting → pc = 0x0001 ∧ nc = 0) ∧
      (s.ts = .awaiting → pc.toNat = min (s.pollcnt.toNat + 1) 0xFFFF ∧ nc = s.nclear) ∧
      (f &&& 0x08 ≠ 0x00 →
        exec .txcycle s = .next { s.afterFrame [0x12, 0x00] [x, f] m with
          ts := .awaiting, pollcnt := pc, lastirq := f, nclear := nc }) ∧
      (f &&& 0x08 = 0x00 → (∀ l, s.params.pollLimit = some l → nc + 1 < l) →
        exec .txcycle s = .next { s.afterFrame [0x12, 0x00] [x, f] m with
          ts := .awaiting, pollcnt := pc, lastirq := f, nclear := nc + 1, dly := true,
          evtValid := true, evtCode := .pollTick,
          history := s.history ++ [.frame [0x12, 0x00] [x, f], .evt .pollTick] }) ∧
      (f &&& 0x08 = 0x00 → (∃ l, s.params.pollLimit = some l ∧ l ≤ nc + 1) →
        exec .txcycle s = .next { s.afterFrame [0x12, 0x00] [x, f] m with
          ts := .idle, pollcnt := pc, lastirq := f, nclear := nc + 1,
          evtValid := true, evtCode := .pollTick,
          history := s.history ++ [.frame [0x12, 0x00] [x, f], .evt .pollTick],
          errcode := .timeout, stErr := true, stDone := true, stBusy := false, cur := none, k := 0, dly := false })

/-- 41_transmit_controller.md R148: the wait W, which sends no frame, and that it happens after, and only after, a poll
that observed the flag clear and did not end in TIMEOUT. -/
def Obligations.PollWaitFollowsEveryClearPoll : Prop :=
  (∀ s : State, s.ts = .awaiting → s.dly = true →
    exec .txcycle s = .next { s with dly := false, history := s.history ++ [.delay 10] }) ∧
  (∀ s t : State, exec .txcycle s = .next t → s.dly = false →
    (t.dly = true ↔ t.stBusy = s.stBusy ∧ t.ts = .awaiting ∧
      ∃ rx, t.history = s.history ++ [.frame [0x12, 0x00] rx, .evt .pollTick])) ∧
  (∀ s t : State, exec .txcycle s = .next t → ∀ new, t.history = s.history ++ new → HistEntry.delay 10 ∈ new →
    s.ts = .awaiting ∧ s.dly = true)

/-- 41_transmit_controller.md R149: D writes exactly 0x08 to the IRQ flags, whatever other bits the last poll observed,
and C completes with no frame. -/
def Obligations.DoneClearsTheFlagAndCompletes : Prop :=
  (∀ (s : State) (rx : List Byte), s.ts = .awaiting → s.dly = false → s.lastirq &&& 0x08 ≠ 0x00 →
    s.answer [0x92, 0x08] = some rx → ∃ m,
    exec .txcycle s = .next { s.afterFrame [0x92, 0x08] rx m with
      ts := .done, evtValid := true, evtCode := .done,
      history := s.history ++ [.evt .done, .frame [0x92, 0x08] rx] }) ∧
  (∀ s : State, s.ts = .done →
    exec .txcycle s = .next { s with stBusy := false, stDone := true, cur := none, k := 0, ts := .idle })

/-- A failed frame of TXCYCLE (41_transmit_controller.md R153): the abort, with the event that came before the frame;
after the first poll's failure POLLCNT is 0, as entering AWAITING left it (R147, R30; log entry 14). -/
def Obligations.TxcycleAbortsAtTheFailedFrame : Prop :=
  ∀ s : State,
    (s.ts = .idle → s.answer [0x8E, 0x00] = none → ∃ m,
      exec .txcycle s = .next { s.afterFail [0x8E, 0x00] m with
        evtValid := true, evtCode := .loading, history := s.history ++ [.evt .loading, .fail [0x8E, 0x00]] }) ∧
    (s.ts = .loading → s.k = 1 → s.answer [0x8D, 0x00] = none → ∃ m,
      exec .txcycle s = .next (s.afterFail [0x8D, 0x00] m)) ∧
    (s.ts = .loading → s.k = 2 → s.answer (0x80 :: (List.range s.len.toNat).map s.bufByte) = none → ∃ m,
      exec .txcycle s = .next (s.afterFail (0x80 :: (List.range s.len.toNat).map s.bufByte) m)) ∧
    (s.ts = .loading → s.k = 3 → s.answer [0xA2, s.len] = none → ∃ m,
      exec .txcycle s = .next (s.afterFail [0xA2, s.len] m)) ∧
    (s.ts = .loading → s.k = 4 → s.answer [0x81, 0x83] = none → ∃ m,
      exec .txcycle s = .next { s.afterFail [0x81, 0x83] m with
        evtValid := true, evtCode := .transmitting,
        history := s.history ++ [.evt .transmitting, .fail [0x81, 0x83]] }) ∧
    (s.ts = .transmitting → s.answer [0x12, 0x00] = none → ∃ m,
      exec .txcycle s = .next { s.afterFail [0x12, 0x00] m with pollcnt := 0x0000, nclear := 0 }) ∧
    (s.ts = .awaiting → s.dly = false → s.lastirq &&& 0x08 = 0x00 → s.answer [0x12, 0x00] = none → ∃ m,
      exec .txcycle s = .next (s.afterFail [0x12, 0x00] m)) ∧
    (s.ts = .awaiting → s.dly = false → s.lastirq &&& 0x08 ≠ 0x00 → s.answer [0x92, 0x08] = none → ∃ m,
      exec .txcycle s = .next { s.afterFail [0x92, 0x08] m with
        evtValid := true, evtCode := .done, history := s.history ++ [.evt .done, .fail [0x92, 0x08]] })

/-- With no poll bound no step of the machine ends in TIMEOUT (41_transmit_controller.md R150). -/
def Obligations.NoPollBoundNoTimeout : Prop :=
  ∀ s t : State, s.params.pollLimit = none → s.errcode ≠ .timeout → step s = .next t → t.errcode ≠ .timeout

/-- 41_transmit_controller.md R151, R152, for any payload and any number of clear polls below the poll bound: with no
frame failing, one TXCYCLE sends its frames and events in this order, waits once after each clear poll, and ends idle
with the poll count, the last flags, and every other host register as before. The host is silent meanwhile (log
entry 9; the strobe's end and the event code it leaves: log entries 7, 23). -/
def Obligations.TxcycleSendsItsFramesInOrder : Prop :=
  ∀ (s : State) (w1 w2 w3 w4 w5 w6 : List Byte) (clear : List (Byte × Byte)) (x f : Byte) (more : List Reply),
    s.rstN = true → s.rs = .ready → s.stBusy = true → s.cur = some 0xA → s.k = 0 → s.ts = .idle → s.dly = false →
    s.turns = [] → (∀ l, s.params.pollLimit = some l → clear.length < l) →
    (∀ p ∈ clear, p.2 &&& 0x08 = 0x00) → f &&& 0x08 ≠ 0x00 →
    s.device = .unconstrained ([Reply.ok w1, .ok w2, .ok w3, .ok w4, .ok w5] ++
      clear.map (fun p => Reply.ok [p.1, p.2]) ++ Reply.ok [x, f] :: .ok w6 :: more) →
    ∃ (h : List HistEntry) (m : Bool),
      stepN (2 * clear.length + 8) s = .next { s with
        tick := s.tick + (2 * clear.length + 8), evtValid := false, evtCode := .done, stBusy := false,
        stDone := true, cur := none, pollcnt := BitVec.ofNat 16 (min (clear.length + 1) 0xFFFF), lastirq := f,
        nclear := clear.length, device := .unconstrained more, cs := !s.params.csActive, sck := false, mosi := m,
        history := s.history ++ h } ∧
      sentOf h =
        [.evt .loading, .frame [0x8E, 0x00] [], .frame [0x8D, 0x00] [],
          .frame (0x80 :: (List.range s.len.toNat).map s.bufByte) [], .frame [0xA2, s.len] [],
          .evt .transmitting, .frame [0x81, 0x83] []] ++
        (List.replicate clear.length
          [HistEntry.frame [0x12, 0x00] [], .evt .pollTick, .delay 10]).flatten ++
        [.frame [0x12, 0x00] [], .evt .done, .frame [0x92, 0x08] []]

/-- 41_transmit_controller.md R154: with no poll bound, a radio that answers every poll clear keeps TXCYCLE busy in
AWAITING through as many polls and waits as one likes. The host is
silent meanwhile (log entry 9). -/
def Obligations.UnboundedPollingNeverCompletes : Prop :=
  ∀ (s : State) (clear : List (Byte × Byte)) (more : List Reply),
    s.rstN = true → s.rs = .ready → s.stBusy = true → s.cur = some 0xA → s.turns = [] → s.params.pollLimit = none →
    s.ts = .awaiting → s.dly = false → s.lastirq &&& 0x08 = 0x00 →
    (∀ p ∈ clear, p.2 &&& 0x08 = 0x00) → s.device = .unconstrained (clear.map (fun p => Reply.ok [p.1, p.2]) ++ more) →
    ∃ t : State, stepN (2 * clear.length) s = .next t ∧ t.stBusy = true ∧ t.cur = some 0xA ∧ t.ts = .awaiting ∧
      t.dly = false ∧ t.lastirq &&& 0x08 = 0x00 ∧
      t.pollcnt.toNat = min (s.pollcnt.toNat + clear.length) 0xFFFF ∧
      sentOf t.history = sentOf s.history ++
        (List.replicate clear.length [HistEntry.frame [0x12, 0x00] [], .evt .pollTick, .delay 10]).flatten

/-! ### Frames and whole-machine rules -/

/-- 20_memory.md R55, with the rest of what no command writes: ADDR, LEN, CMD, OVR, READY, the reset phase and line,
the build, the host port and what is still to come from the host. -/
def Obligations.NoCommandWritesItsOperands : Prop :=
  ∀ (i : Instr) (s t : State), exec i s = .next t →
    t.addr = s.addr ∧ t.len = s.len ∧ t.opLast = s.opLast ∧ t.stOvr = s.stOvr ∧ t.stReady = s.stReady ∧
    t.rs = s.rs ∧ t.rstDev = s.rstDev ∧ t.rstN = s.rstN ∧ t.params = s.params ∧ t.hRdata = s.hRdata ∧
    t.bufDraw = s.bufDraw ∧ t.inits = s.inits ∧ t.turns = s.turns ∧ t.tick = s.tick ∧ t.lowHeld = s.lowHeld

/-- 40_register_bus.md R117: no RegisterBus command writes ADDR, LEN, POLLCNT or LASTIRQ or leaves IDLE; DATA_LO and
DATA_HI are written by RDB and RDW alone, BUF by RDBLK and DUMP alone. -/
def Obligations.RegisterBusCommandsLeaveTheRest : Prop :=
  ∀ (i : Instr) (s t : State), i ∈ ([.rdb, .rdw, .rdblk, .wrb, .wrw, .wrblk, .dump] : List Instr) →
    exec i s = .next t →
    t.addr = s.addr ∧ t.len = s.len ∧ t.pollcnt = s.pollcnt ∧ t.lastirq = s.lastirq ∧ t.nclear = s.nclear ∧
    (s.ts = .idle → t.ts = .idle) ∧
    (i ≠ .rdb → i ≠ .rdw → t.dataLo = s.dataLo ∧ t.dataHi = s.dataHi) ∧
    (i ≠ .rdblk → i ≠ .dump → t.buf = s.buf)

/-- BUF (10_state.md R32): a command changes no byte but BUF[0..N-1] in RDBLK and BUF[k] in DUMP. -/
def Obligations.OnlyReadCommandsWriteTheirBufferBytes : Prop :=
  ∀ (i : Instr) (s t : State) (j : Nat), exec i s = .next t →
    t.bufByte j = s.bufByte j ∨ (i = .rdblk ∧ j < s.len.toNat) ∨ (i = .dump ∧ j = s.k ∧ j ≤ 0x42)

/-- 40_register_bus.md R116: where a command's frame fails, the registers and the buffer bytes that frame would have
written keep their values, and the command has ended with BUS. -/
def Obligations.FailedFrameWritesNoResult : Prop :=
  ∀ (i : Instr) (s t : State) (before : List HistEntry) (tx : List Byte), exec i s = .next t →
    t.history = s.history ++ before ++ [.fail tx] →
    t.dataLo = s.dataLo ∧ t.dataHi = s.dataHi ∧ t.buf = s.buf ∧ t.lastirq = s.lastirq ∧
    t.errcode = .bus ∧ t.stErr = true ∧ t.stDone = true ∧ t.stBusy = false ∧
    t.cur = none ∧ t.k = 0 ∧ t.dly = false ∧ t.ts = .idle

/-- A micro-step ends its command or leaves it running: when BUSY falls, DONE is set and the sequencer is idle, with no
error beyond those acceptance left or with BUS or TIMEOUT; while BUSY stays, no completion flag changes (R115, R172). -/
def Obligations.MicroStepEndsOrContinues : Prop :=
  ∀ (i : Instr) (s t : State), s.stBusy = true → exec i s = .next t →
    (t.stBusy = false ∧ t.stDone = true ∧ t.cur = none ∧ t.k = 0 ∧ t.ts = .idle ∧
      ((t.stErr = s.stErr ∧ t.errcode = s.errcode) ∨ (t.stErr = true ∧ (t.errcode = .bus ∨ t.errcode = .timeout)))) ∨
    (t.stBusy = true ∧ t.stDone = s.stDone ∧ t.stErr = s.stErr ∧ t.errcode = s.errcode ∧ t.cur = s.cur)

/-- A micro-step of a command appends to the history, and at most one of the entries it appends is a frame; chip select
is inactive after it, if it was before (R9, R44, R64). -/
def Obligations.AtMostOneFrameAMicroStep : Prop :=
  ∀ (i : Instr) (s t : State), exec i s = .next t →
    ∃ new : List HistEntry, t.history = s.history ++ new ∧ (new.filter HistEntry.isFrame).length ≤ 1 ∧
      (s.cs = (!s.params.csActive) → t.cs = (!t.params.csActive))

/-- Only TXCYCLE emits observer events (60_exceptions.md R181). -/
def Obligations.OnlyTxcycleEmitsEvents : Prop :=
  ∀ (i : Instr) (s t : State), i ≠ .txcycle → exec i s = .next t →
    t.evtValid = s.evtValid ∧ t.evtCode = s.evtCode ∧
    ∃ new : List HistEntry, t.history = s.history ++ new ∧ ∀ e : Event, HistEntry.evt e ∉ new

/-! ### Invariant and progress -/

/-- The reset state meets the invariant. -/
def Obligations.ResetStateMeetsTheInvariant : Prop := State.reset.Inv

/-- Every step, whoever's turn it is and whatever the host and the radio do, keeps the invariant: the buffer canonical,
the flags, the sequencer and the lines consistent, and reset values held while `rst_n` is 0. -/
def Obligations.EveryStepKeepsTheInvariant : Prop :=
  ∀ s t : State, s.Inv → step s = .next t → t.Inv

/-- The machine never stops: from every state that meets the invariant, a step answers a next state. -/
def Obligations.EveryStepAnswersANextState : Prop :=
  ∀ s : State, s.Inv → ∃ t : State, step s = .next t

/-- No frame goes out unless the reset sequence completed and a command runs (60_exceptions.md R173,
70_reset_and_hazards.md R200). -/
def Obligations.NoFrameBeforeTheBlockIsReady : Prop :=
  ∀ (s t : State) (new : List HistEntry) (e : HistEntry), s.Inv → step s = .next t →
    t.history = s.history ++ new → e ∈ new → e.isFrame = true →
    s.rs = .ready ∧ s.stReady = true ∧ s.stBusy = true ∧ s.cur ≠ none ∧ s.rstN = true

/-! ### Commands as the host starts them -/

/-- The host writes of an assembler term's expansion (30_encoding.md R82), on an idle ready block, put the operands in
place and start the command, and the `wait`, with the block's steps before its first read, is what is left (its turns:
log entries 9, 21). -/
def Obligations.ExpansionSetsUpAndStartsTheCommand : Prop :=
  ∀ (c : AsmCmd) (gaps : List Nat) (s : State),
    c.wellFormed = true → s.rstN = true → s.rs = .ready → s.stBusy = false → s.turns = expand c gaps →
    ∃ t : State, stepN (hostWrites c).length s = .next t ∧ t.stBusy = true ∧ t.cur = some (opcodeOf c.instr) ∧
      t.k = 0 ∧ t.stOvr = s.stOvr ∧ t.history = s.history ∧
      t.turns = List.replicate (gaps.headD 1) .block ++ [.wait (gaps.drop 1)] ∧
      match c with
      | .rdb a => t.addr = a
      | .rdw a => t.addr = a
      | .rdblk a n => t.addr = a ∧ t.len = n
      | .wrb a v => t.addr = a ∧ t.dataLo = v
      | .wrw a v => t.addr = a ∧ hostWord t.dataHi t.dataLo = v
      | .wrblk a bytes => t.addr = a ∧ t.len.toNat = bytes.length ∧ t.bufBytes bytes.length = bytes
      | .txcycle bytes => t.len.toNat = bytes.length ∧ t.bufBytes bytes.length = bytes
      | .dump => True
      | .config => True

/-- When the host is through with an expansion (30_encoding.md R82), however many steps the block gets before each of its
reads of STATUS, the command it started has completed (its turns: log entries 9, 21). -/
def Obligations.ExpandedCommandHasCompletedAfterTheWait : Prop :=
  ∀ (c : AsmCmd) (gaps : List Nat) (s t : State) (n : Nat),
    c.wellFormed = true → s.rstN = true → s.rs = .ready → s.stBusy = false → s.turns = expand c gaps →
    stepN n s = .next t → t.turns = [] →
    t.stBusy = false ∧ t.stDone = true ∧ t.cur = none ∧ t.opLast = opcodeOf c.instr

/-! ### The reference device -/

/-- 40_register_bus.md R107: WRB's header is `A | 0x80` with bit 7 set; and on REFDEV, at a device address that is
neither the FIFO nor the IRQ flags, a byte written by WRB comes back through RDB at the same address. -/
def Obligations.ByteWrittenComesBackOnTheReferenceDevice : Prop :=
  (∀ s t : State, exec .wrb s = .next t → (s.addr ||| 0x80).getLsbD 7 = true ∧
    ∃ rx, t.history = s.history ++ [.frame [s.addr ||| 0x80, s.dataLo] rx] ∨
      t.history = s.history ++ [.fail [s.addr ||| 0x80, s.dataLo]]) ∧
  (∀ (s t u : State) (r : RefDev), s.device = .reference r → r.wf = true →
    s.addr.extractLsb' 0 7 ≠ 0x00 → s.addr.extractLsb' 0 7 ≠ 0x12 →
    exec .wrb s = .next t → exec .rdb t = .next u → u.dataLo = s.dataLo ∧ u.dataHi = 0x00)

/-- On REFDEV a word written by WRW comes back byte-swapped through RDW (20_memory.md R61, 70_reset_and_hazards.md
R214), at an address from which neither position is the FIFO or the IRQ flags. -/
def Obligations.WordComesBackSwappedOnTheReferenceDevice : Prop :=
  ∀ (s t u : State) (r : RefDev) (a : DevAddr), s.device = .reference r → r.wf = true →
    a = s.addr.extractLsb' 0 7 → a ≠ 0x00 → a ≠ 0x12 → a + 1 ≠ 0x00 → a + 1 ≠ 0x12 →
    exec .wrw s = .next t → exec .rdw t = .next u → u.dataHi = s.dataLo ∧ u.dataLo = s.dataHi

/-- On REFDEV the clear frame of TXCYCLE clears bit 3 of the IRQ flags and no other bit, and no other register
(10_state.md R40, 41_transmit_controller.md R149). -/
def Obligations.DoneClearsOnlyBitThreeOnTheReferenceDevice : Prop :=
  ∀ (s t : State) (r : RefDev), s.device = .reference r → r.wf = true → s.ts = .awaiting → s.dly = false →
    s.lastirq &&& 0x08 ≠ 0x00 → exec .txcycle s = .next t →
    t.radioReg 0x12 = s.radioReg 0x12 &&& 0xF7 ∧ ∀ a : DevAddr, a ≠ 0x12 → t.radioReg a = s.radioReg a

/-- On REFDEV a WRBLK at the FIFO moves its position (8 bits wide there, 92_eei_decisions.md D27) by one a byte and
stores the bytes there in order (10_state.md R41, 20_memory.md R65). -/
def Obligations.FifoAdvancesOneByteAWriteOnTheReferenceDevice : Prop :=
  ∀ (s t : State) (r : RefDev), s.device = .reference r → r.wf = true → s.addr.extractLsb' 0 7 = 0x00 →
    exec .wrblk s = .next t →
    t.radioFifoPos = (s.radioFifoPos + s.len.toNat) % 256 ∧
    ∃ r' : RefDev, t.device = .reference r' ∧ r'.regs = r.regs ∧
      ∀ j : Nat, j < s.len.toNat → Memory.byte0 r'.fifo ((r.fp.toNat + j) % 256) = s.bufByte j
end

