-- ==== Sys2Proof/Laws/Decode.lean ====
section
/-! SUPPORT. Laws of the opcode table. -/
namespace Sys2Proof

/-- No byte matches two rows of the opcode table. -/
theorem opcodeTable_disjoint : ∀ b : Byte, (opcodeTable.filter (fun r => b &&& r.mask == r.pattern)).length ≤ 1 := by
  decide

/-- The opcode of a command decodes to it. -/
@[simp] theorem decodeOp_opcodeOf (i : Instr) : decodeOp (opcodeOf i) = some i := by
  cases i <;> decide

/-- The opcode field of an opcode's byte is the opcode. -/
@[simp] theorem opField_opByte (op : Opcode) : opField (opByte op) = op := by
  revert op; decide

/-- An opcode that decodes is the opcode of what it decodes to. -/
theorem opcodeOf_of_decodeOp {op : Opcode} {i : Instr} (h : decodeOp op = some i) : op = opcodeOf i := by
  revert op i; decide +revert

end Sys2Proof
end

