-- ==== Sys2Proof/Laws/Memory.lean ====
section
/-! SUPPORT. The laws of byte memories: read after write, a write elsewhere, and the canonical form kept. -/
namespace Sys2Proof.Machine

/-- Reading a memory whose unlisted bytes are draws, after a write: the byte written, or what stood there. -/
theorem Memory.lookup_store (m : Memory) (i j : Nat) (v : Byte) :
    Memory.lookup (Memory.store none m i v) j = if i = j then some v else Memory.lookup m j := by
  induction m with
  | nil => simp [Memory.store, Memory.lookup]
  | cons c m ih =>
    obtain ⟨a, w⟩ := c
    simp only [Memory.store, reduceCtorEq, if_false]
    split
    · rfl
    · split
      · subst_vars
        by_cases hj : a = j <;> simp [Memory.lookup, hj]
      · simp only [Memory.lookup, ih]
        split
        · rw [if_neg (by omega)]
        · rfl

/-- A canonical memory from `lo` on lists nothing below `lo`. -/
theorem Memory.lookup_below {d : Option Byte} {hi lo i : Nat} {m : Memory}
    (h : Memory.wfFrom d hi lo m = true) (hi' : i < lo) : Memory.lookup m i = none := by
  induction m generalizing lo with
  | nil => rfl
  | cons c m ih =>
    obtain ⟨a, w⟩ := c
    simp only [Memory.wfFrom, Bool.and_eq_true, decide_eq_true_eq] at h
    have : ¬ a = i := by omega
    simp only [Memory.lookup, this, if_false]
    exact ih h.2 (by omega)

/-- The canonical form from a higher start is the canonical form from a lower one. -/
theorem Memory.wfFrom_mono {d : Option Byte} {hi lo lo' : Nat} {m : Memory}
    (h : Memory.wfFrom d hi lo m = true) (hlo : lo' ≤ lo) : Memory.wfFrom d hi lo' m = true := by
  cases m with
  | nil => rfl
  | cons c m =>
    obtain ⟨a, w⟩ := c
    simp only [Memory.wfFrom, Bool.and_eq_true, decide_eq_true_eq] at h ⊢
    exact ⟨⟨⟨by omega, h.1.1.2⟩, h.1.2⟩, h.2⟩

/-- A write below the bound keeps the canonical form. -/
theorem Memory.wfFrom_store {d : Option Byte} {hi lo i : Nat} {m : Memory} {v : Byte}
    (h : Memory.wfFrom d hi lo m = true) (hlo : lo ≤ i) (hhi : i < hi) :
    Memory.wfFrom d hi lo (Memory.store d m i v) = true := by
  induction m generalizing lo with
  | nil =>
    unfold Memory.store
    split
    · rfl
    · simp_all [Memory.wfFrom]
  | cons c m ih =>
    obtain ⟨a, w⟩ := c
    have h' := h
    simp only [Memory.wfFrom, Bool.and_eq_true, decide_eq_true_eq] at h
    unfold Memory.store
    split
    · split
      · exact h'
      · simp only [Memory.wfFrom, Bool.and_eq_true, decide_eq_true_eq]
        exact ⟨⟨⟨hlo, hhi⟩, by assumption⟩, ⟨⟨by omega, h.1.1.2⟩, h.1.2⟩, h.2⟩
    · split
      · split
        · exact Memory.wfFrom_mono h.2 (by omega)
        · subst_vars
          simp only [Memory.wfFrom, Bool.and_eq_true, decide_eq_true_eq]
          exact ⟨⟨⟨hlo, hhi⟩, by assumption⟩, h.2⟩
      · simp only [Memory.wfFrom, Bool.and_eq_true, decide_eq_true_eq]
        exact ⟨h.1, ih h.2 (by omega)⟩

/-- A write below the bound keeps a memory canonical. -/
theorem Memory.wf_store {d : Option Byte} {hi i : Nat} {m : Memory} {v : Byte}
    (h : Memory.wf d hi m = true) (hhi : i < hi) : Memory.wf d hi (Memory.store d m i v) = true :=
  Memory.wfFrom_store h (Nat.zero_le i) hhi

/-- Reading a memory whose unlisted bytes are 0, after a write. -/
theorem Memory.byte0_store0 {hi lo : Nat} {m : Memory} (i j : Nat) (v : Byte)
    (h : Memory.wfFrom (some 0x00) hi lo m = true) :
    Memory.byte0 (Memory.store0 m i v) j = if i = j then v else Memory.byte0 m j := by
  unfold Memory.byte0 Memory.store0
  induction m generalizing lo with
  | nil =>
    simp only [Memory.store, Option.some.injEq]
    split
    · subst_vars; simp [Memory.lookup]
    · by_cases hj : i = j <;> simp [Memory.lookup, hj]
  | cons c m ih =>
    obtain ⟨a, w⟩ := c
    simp only [Memory.wfFrom, Bool.and_eq_true, decide_eq_true_eq] at h
    have below : ∀ k, k ≤ a → Memory.lookup m k = none := fun k hk => Memory.lookup_below h.2 (by omega)
    simp only [Memory.store, Option.some.injEq]
    split
    · split
      · subst_vars
        by_cases hj : i = j
        · subst hj
          have : ¬ a = i := by omega
          simp [Memory.lookup, this, below i (by omega)]
        · simp [hj]
      · by_cases hj : i = j <;> simp [Memory.lookup, hj]
    · split
      · subst_vars
        split
        · subst_vars
          by_cases hj : a = j
          · subst hj; simp [below a (le_refl a)]
          · simp [Memory.lookup, hj]
        · by_cases hj : a = j <;> simp [Memory.lookup, hj]
      · by_cases hj : a = j
        · subst hj
          rw [if_neg (by omega)]
          simp [Memory.lookup]
        · simpa [Memory.lookup, hj] using ih h.2

/-! ### The buffer -/

/-- A BUF write reads back, and leaves every other byte. -/
theorem bufStore_lookup (m : Memory) (i j : Nat) (v : Byte) :
    Memory.lookup (bufStore m i v) j = if i % Config.bufSize = j then some v else Memory.lookup m j :=
  Memory.lookup_store m _ j v

/-- A BUF write keeps the canonical form. -/
theorem bufStore_wf {m : Memory} (i : Nat) (v : Byte) (h : Memory.wf none Config.bufSize m = true) :
    Memory.wf none Config.bufSize (bufStore m i v) = true :=
  Memory.wf_store h (Nat.mod_lt _ (by decide))

/-- Writing a list of bytes keeps the canonical form. -/
theorem bufStoreAll_wf {m : Memory} (i : Nat) (vs : List Byte) (h : Memory.wf none Config.bufSize m = true) :
    Memory.wf none Config.bufSize (bufStoreAll m i vs) = true := by
  induction vs generalizing m i with
  | nil => exact h
  | cons v vs ih => exact ih (i + 1) (bufStore_wf i v h)

/-- What a BUF memory lists after a list of bytes is stored from `i` on, inside the buffer. -/
theorem bufStoreAll_lookup (m : Memory) (i j : Nat) (vs : List Byte) (hfit : i + vs.length ≤ Config.bufSize) :
    Memory.lookup (bufStoreAll m i vs) j =
      if i ≤ j ∧ j < i + vs.length then vs[j - i]? else Memory.lookup m j := by
  induction vs generalizing m i with
  | nil =>
    simp [bufStoreAll]
  | cons v vs ih =>
    simp only [List.length_cons] at hfit
    rw [bufStoreAll, ih _ _ (by omega), bufStore_lookup, Nat.mod_eq_of_lt (by omega)]
    rcases Nat.lt_trichotomy i j with hij | hij | hij
    · have e : j - i = (j - (i + 1)) + 1 := by omega
      by_cases hj : j < i + 1 + vs.length
      · have h1 : i + 1 ≤ j ∧ j < i + 1 + vs.length := ⟨by omega, hj⟩
        have h2 : i ≤ j ∧ j < i + (vs.length + 1) := ⟨by omega, by omega⟩
        simp only [List.length_cons, h1, h2, and_self, if_true]
        rw [e, List.getElem?_cons_succ]
      · have h1 : ¬ (i + 1 ≤ j ∧ j < i + 1 + vs.length) := by omega
        have h2 : ¬ (i ≤ j ∧ j < i + (vs.length + 1)) := by omega
        have h3 : ¬ i = j := by omega
        simp only [List.length_cons, h1, h2, h3, if_false]
    · subst hij
      have h1 : ¬ (i + 1 ≤ i ∧ i < i + 1 + vs.length) := by omega
      have h2 : i ≤ i ∧ i < i + (vs.length + 1) := ⟨le_refl i, by omega⟩
      simp only [List.length_cons, h1, h2, if_false, if_true, and_self]
      simp
    · have h1 : ¬ (i + 1 ≤ j ∧ j < i + 1 + vs.length) := by omega
      have h2 : ¬ (i ≤ j ∧ j < i + (vs.length + 1)) := by omega
      have h3 : ¬ i = j := by omega
      simp only [List.length_cons, h1, h2, h3, if_false]

/-- The buffer bytes sent are the buffer bytes, in order. -/
theorem bufBytes_length (s : State) (n : Nat) : (s.bufBytes n).length = n := by simp [State.bufBytes]

end Sys2Proof.Machine
end

