-- ==== Sys2Proof/Laws/State.lean ====
section
/-! SUPPORT. One lemma per field per named update of State, each true by rfl, so that no proof unfolds a record
update. -/
namespace Sys2Proof.Machine

variable (s : State)

/-! ### record -/

@[simp] theorem State.record_opLast (e : HistEntry) : (s.record e).opLast = s.opLast := rfl
@[simp] theorem State.record_addr (e : HistEntry) : (s.record e).addr = s.addr := rfl
@[simp] theorem State.record_len (e : HistEntry) : (s.record e).len = s.len := rfl
@[simp] theorem State.record_dataLo (e : HistEntry) : (s.record e).dataLo = s.dataLo := rfl
@[simp] theorem State.record_dataHi (e : HistEntry) : (s.record e).dataHi = s.dataHi := rfl
@[simp] theorem State.record_stBusy (e : HistEntry) : (s.record e).stBusy = s.stBusy := rfl
@[simp] theorem State.record_stDone (e : HistEntry) : (s.record e).stDone = s.stDone := rfl
@[simp] theorem State.record_stErr (e : HistEntry) : (s.record e).stErr = s.stErr := rfl
@[simp] theorem State.record_stOvr (e : HistEntry) : (s.record e).stOvr = s.stOvr := rfl
@[simp] theorem State.record_stReady (e : HistEntry) : (s.record e).stReady = s.stReady := rfl
@[simp] theorem State.record_errcode (e : HistEntry) : (s.record e).errcode = s.errcode := rfl
@[simp] theorem State.record_pollcnt (e : HistEntry) : (s.record e).pollcnt = s.pollcnt := rfl
@[simp] theorem State.record_lastirq (e : HistEntry) : (s.record e).lastirq = s.lastirq := rfl
@[simp] theorem State.record_buf (e : HistEntry) : (s.record e).buf = s.buf := rfl
@[simp] theorem State.record_rs (e : HistEntry) : (s.record e).rs = s.rs := rfl
@[simp] theorem State.record_ts (e : HistEntry) : (s.record e).ts = s.ts := rfl
@[simp] theorem State.record_cur (e : HistEntry) : (s.record e).cur = s.cur := rfl
@[simp] theorem State.record_k (e : HistEntry) : (s.record e).k = s.k := rfl
@[simp] theorem State.record_dly (e : HistEntry) : (s.record e).dly = s.dly := rfl
@[simp] theorem State.record_nclear (e : HistEntry) : (s.record e).nclear = s.nclear := rfl
@[simp] theorem State.record_cs (e : HistEntry) : (s.record e).cs = s.cs := rfl
@[simp] theorem State.record_rstDev (e : HistEntry) : (s.record e).rstDev = s.rstDev := rfl
@[simp] theorem State.record_sck (e : HistEntry) : (s.record e).sck = s.sck := rfl
@[simp] theorem State.record_mosi (e : HistEntry) : (s.record e).mosi = s.mosi := rfl
@[simp] theorem State.record_evtValid (e : HistEntry) : (s.record e).evtValid = s.evtValid := rfl
@[simp] theorem State.record_evtCode (e : HistEntry) : (s.record e).evtCode = s.evtCode := rfl
@[simp] theorem State.record_hRdata (e : HistEntry) : (s.record e).hRdata = s.hRdata := rfl
@[simp] theorem State.record_rstN (e : HistEntry) : (s.record e).rstN = s.rstN := rfl
@[simp] theorem State.record_history (e : HistEntry) : (s.record e).history = (s.history ++ [e]) := rfl
@[simp] theorem State.record_params (e : HistEntry) : (s.record e).params = s.params := rfl
@[simp] theorem State.record_device (e : HistEntry) : (s.record e).device = s.device := rfl
@[simp] theorem State.record_lowHeld (e : HistEntry) : (s.record e).lowHeld = s.lowHeld := rfl
@[simp] theorem State.record_bufDraw (e : HistEntry) : (s.record e).bufDraw = s.bufDraw := rfl
@[simp] theorem State.record_inits (e : HistEntry) : (s.record e).inits = s.inits := rfl
@[simp] theorem State.record_turns (e : HistEntry) : (s.record e).turns = s.turns := rfl
@[simp] theorem State.record_tick (e : HistEntry) : (s.record e).tick = s.tick := rfl

/-! ### emit -/

@[simp] theorem State.emit_opLast (e : Event) : (s.emit e).opLast = s.opLast := rfl
@[simp] theorem State.emit_addr (e : Event) : (s.emit e).addr = s.addr := rfl
@[simp] theorem State.emit_len (e : Event) : (s.emit e).len = s.len := rfl
@[simp] theorem State.emit_dataLo (e : Event) : (s.emit e).dataLo = s.dataLo := rfl
@[simp] theorem State.emit_dataHi (e : Event) : (s.emit e).dataHi = s.dataHi := rfl
@[simp] theorem State.emit_stBusy (e : Event) : (s.emit e).stBusy = s.stBusy := rfl
@[simp] theorem State.emit_stDone (e : Event) : (s.emit e).stDone = s.stDone := rfl
@[simp] theorem State.emit_stErr (e : Event) : (s.emit e).stErr = s.stErr := rfl
@[simp] theorem State.emit_stOvr (e : Event) : (s.emit e).stOvr = s.stOvr := rfl
@[simp] theorem State.emit_stReady (e : Event) : (s.emit e).stReady = s.stReady := rfl
@[simp] theorem State.emit_errcode (e : Event) : (s.emit e).errcode = s.errcode := rfl
@[simp] theorem State.emit_pollcnt (e : Event) : (s.emit e).pollcnt = s.pollcnt := rfl
@[simp] theorem State.emit_lastirq (e : Event) : (s.emit e).lastirq = s.lastirq := rfl
@[simp] theorem State.emit_buf (e : Event) : (s.emit e).buf = s.buf := rfl
@[simp] theorem State.emit_rs (e : Event) : (s.emit e).rs = s.rs := rfl
@[simp] theorem State.emit_ts (e : Event) : (s.emit e).ts = s.ts := rfl
@[simp] theorem State.emit_cur (e : Event) : (s.emit e).cur = s.cur := rfl
@[simp] theorem State.emit_k (e : Event) : (s.emit e).k = s.k := rfl
@[simp] theorem State.emit_dly (e : Event) : (s.emit e).dly = s.dly := rfl
@[simp] theorem State.emit_nclear (e : Event) : (s.emit e).nclear = s.nclear := rfl
@[simp] theorem State.emit_cs (e : Event) : (s.emit e).cs = s.cs := rfl
@[simp] theorem State.emit_rstDev (e : Event) : (s.emit e).rstDev = s.rstDev := rfl
@[simp] theorem State.emit_sck (e : Event) : (s.emit e).sck = s.sck := rfl
@[simp] theorem State.emit_mosi (e : Event) : (s.emit e).mosi = s.mosi := rfl
@[simp] theorem State.emit_evtValid (e : Event) : (s.emit e).evtValid = (true) := rfl
@[simp] theorem State.emit_evtCode (e : Event) : (s.emit e).evtCode = (e) := rfl
@[simp] theorem State.emit_hRdata (e : Event) : (s.emit e).hRdata = s.hRdata := rfl
@[simp] theorem State.emit_rstN (e : Event) : (s.emit e).rstN = s.rstN := rfl
@[simp] theorem State.emit_history (e : Event) : (s.emit e).history = (s.history ++ [.evt e]) := rfl
@[simp] theorem State.emit_params (e : Event) : (s.emit e).params = s.params := rfl
@[simp] theorem State.emit_device (e : Event) : (s.emit e).device = s.device := rfl
@[simp] theorem State.emit_lowHeld (e : Event) : (s.emit e).lowHeld = s.lowHeld := rfl
@[simp] theorem State.emit_bufDraw (e : Event) : (s.emit e).bufDraw = s.bufDraw := rfl
@[simp] theorem State.emit_inits (e : Event) : (s.emit e).inits = s.inits := rfl
@[simp] theorem State.emit_turns (e : Event) : (s.emit e).turns = s.turns := rfl
@[simp] theorem State.emit_tick (e : Event) : (s.emit e).tick = s.tick := rfl

/-! ### driveRst -/

@[simp] theorem State.driveRst_opLast (l : Bool) : (s.driveRst l).opLast = s.opLast := rfl
@[simp] theorem State.driveRst_addr (l : Bool) : (s.driveRst l).addr = s.addr := rfl
@[simp] theorem State.driveRst_len (l : Bool) : (s.driveRst l).len = s.len := rfl
@[simp] theorem State.driveRst_dataLo (l : Bool) : (s.driveRst l).dataLo = s.dataLo := rfl
@[simp] theorem State.driveRst_dataHi (l : Bool) : (s.driveRst l).dataHi = s.dataHi := rfl
@[simp] theorem State.driveRst_stBusy (l : Bool) : (s.driveRst l).stBusy = s.stBusy := rfl
@[simp] theorem State.driveRst_stDone (l : Bool) : (s.driveRst l).stDone = s.stDone := rfl
@[simp] theorem State.driveRst_stErr (l : Bool) : (s.driveRst l).stErr = s.stErr := rfl
@[simp] theorem State.driveRst_stOvr (l : Bool) : (s.driveRst l).stOvr = s.stOvr := rfl
@[simp] theorem State.driveRst_stReady (l : Bool) : (s.driveRst l).stReady = s.stReady := rfl
@[simp] theorem State.driveRst_errcode (l : Bool) : (s.driveRst l).errcode = s.errcode := rfl
@[simp] theorem State.driveRst_pollcnt (l : Bool) : (s.driveRst l).pollcnt = s.pollcnt := rfl
@[simp] theorem State.driveRst_lastirq (l : Bool) : (s.driveRst l).lastirq = s.lastirq := rfl
@[simp] theorem State.driveRst_buf (l : Bool) : (s.driveRst l).buf = s.buf := rfl
@[simp] theorem State.driveRst_rs (l : Bool) : (s.driveRst l).rs = s.rs := rfl
@[simp] theorem State.driveRst_ts (l : Bool) : (s.driveRst l).ts = s.ts := rfl
@[simp] theorem State.driveRst_cur (l : Bool) : (s.driveRst l).cur = s.cur := rfl
@[simp] theorem State.driveRst_k (l : Bool) : (s.driveRst l).k = s.k := rfl
@[simp] theorem State.driveRst_dly (l : Bool) : (s.driveRst l).dly = s.dly := rfl
@[simp] theorem State.driveRst_nclear (l : Bool) : (s.driveRst l).nclear = s.nclear := rfl
@[simp] theorem State.driveRst_cs (l : Bool) : (s.driveRst l).cs = s.cs := rfl
@[simp] theorem State.driveRst_rstDev (l : Bool) : (s.driveRst l).rstDev = (l) := rfl
@[simp] theorem State.driveRst_sck (l : Bool) : (s.driveRst l).sck = s.sck := rfl
@[simp] theorem State.driveRst_mosi (l : Bool) : (s.driveRst l).mosi = s.mosi := rfl
@[simp] theorem State.driveRst_evtValid (l : Bool) : (s.driveRst l).evtValid = s.evtValid := rfl
@[simp] theorem State.driveRst_evtCode (l : Bool) : (s.driveRst l).evtCode = s.evtCode := rfl
@[simp] theorem State.driveRst_hRdata (l : Bool) : (s.driveRst l).hRdata = s.hRdata := rfl
@[simp] theorem State.driveRst_rstN (l : Bool) : (s.driveRst l).rstN = s.rstN := rfl
@[simp] theorem State.driveRst_history (l : Bool) : (s.driveRst l).history = (s.history ++ [.rst l]) := rfl
@[simp] theorem State.driveRst_params (l : Bool) : (s.driveRst l).params = s.params := rfl
@[simp] theorem State.driveRst_device (l : Bool) : (s.driveRst l).device = s.device := rfl
@[simp] theorem State.driveRst_lowHeld (l : Bool) : (s.driveRst l).lowHeld = s.lowHeld := rfl
@[simp] theorem State.driveRst_bufDraw (l : Bool) : (s.driveRst l).bufDraw = s.bufDraw := rfl
@[simp] theorem State.driveRst_inits (l : Bool) : (s.driveRst l).inits = s.inits := rfl
@[simp] theorem State.driveRst_turns (l : Bool) : (s.driveRst l).turns = s.turns := rfl
@[simp] theorem State.driveRst_tick (l : Bool) : (s.driveRst l).tick = s.tick := rfl

/-! ### delay -/

@[simp] theorem State.delay_opLast (ms : Nat) : (s.delay ms).opLast = s.opLast := rfl
@[simp] theorem State.delay_addr (ms : Nat) : (s.delay ms).addr = s.addr := rfl
@[simp] theorem State.delay_len (ms : Nat) : (s.delay ms).len = s.len := rfl
@[simp] theorem State.delay_dataLo (ms : Nat) : (s.delay ms).dataLo = s.dataLo := rfl
@[simp] theorem State.delay_dataHi (ms : Nat) : (s.delay ms).dataHi = s.dataHi := rfl
@[simp] theorem State.delay_stBusy (ms : Nat) : (s.delay ms).stBusy = s.stBusy := rfl
@[simp] theorem State.delay_stDone (ms : Nat) : (s.delay ms).stDone = s.stDone := rfl
@[simp] theorem State.delay_stErr (ms : Nat) : (s.delay ms).stErr = s.stErr := rfl
@[simp] theorem State.delay_stOvr (ms : Nat) : (s.delay ms).stOvr = s.stOvr := rfl
@[simp] theorem State.delay_stReady (ms : Nat) : (s.delay ms).stReady = s.stReady := rfl
@[simp] theorem State.delay_errcode (ms : Nat) : (s.delay ms).errcode = s.errcode := rfl
@[simp] theorem State.delay_pollcnt (ms : Nat) : (s.delay ms).pollcnt = s.pollcnt := rfl
@[simp] theorem State.delay_lastirq (ms : Nat) : (s.delay ms).lastirq = s.lastirq := rfl
@[simp] theorem State.delay_buf (ms : Nat) : (s.delay ms).buf = s.buf := rfl
@[simp] theorem State.delay_rs (ms : Nat) : (s.delay ms).rs = s.rs := rfl
@[simp] theorem State.delay_ts (ms : Nat) : (s.delay ms).ts = s.ts := rfl
@[simp] theorem State.delay_cur (ms : Nat) : (s.delay ms).cur = s.cur := rfl
@[simp] theorem State.delay_k (ms : Nat) : (s.delay ms).k = s.k := rfl
@[simp] theorem State.delay_dly (ms : Nat) : (s.delay ms).dly = s.dly := rfl
@[simp] theorem State.delay_nclear (ms : Nat) : (s.delay ms).nclear = s.nclear := rfl
@[simp] theorem State.delay_cs (ms : Nat) : (s.delay ms).cs = s.cs := rfl
@[simp] theorem State.delay_rstDev (ms : Nat) : (s.delay ms).rstDev = s.rstDev := rfl
@[simp] theorem State.delay_sck (ms : Nat) : (s.delay ms).sck = s.sck := rfl
@[simp] theorem State.delay_mosi (ms : Nat) : (s.delay ms).mosi = s.mosi := rfl
@[simp] theorem State.delay_evtValid (ms : Nat) : (s.delay ms).evtValid = s.evtValid := rfl
@[simp] theorem State.delay_evtCode (ms : Nat) : (s.delay ms).evtCode = s.evtCode := rfl
@[simp] theorem State.delay_hRdata (ms : Nat) : (s.delay ms).hRdata = s.hRdata := rfl
@[simp] theorem State.delay_rstN (ms : Nat) : (s.delay ms).rstN = s.rstN := rfl
@[simp] theorem State.delay_history (ms : Nat) : (s.delay ms).history = (s.history ++ [.delay ms]) := rfl
@[simp] theorem State.delay_params (ms : Nat) : (s.delay ms).params = s.params := rfl
@[simp] theorem State.delay_device (ms : Nat) : (s.delay ms).device = s.device := rfl
@[simp] theorem State.delay_lowHeld (ms : Nat) : (s.delay ms).lowHeld = s.lowHeld := rfl
@[simp] theorem State.delay_bufDraw (ms : Nat) : (s.delay ms).bufDraw = s.bufDraw := rfl
@[simp] theorem State.delay_inits (ms : Nat) : (s.delay ms).inits = s.inits := rfl
@[simp] theorem State.delay_turns (ms : Nat) : (s.delay ms).turns = s.turns := rfl
@[simp] theorem State.delay_tick (ms : Nat) : (s.delay ms).tick = s.tick := rfl

/-! ### select -/

@[simp] theorem State.select_opLast : (s.select).opLast = s.opLast := rfl
@[simp] theorem State.select_addr : (s.select).addr = s.addr := rfl
@[simp] theorem State.select_len : (s.select).len = s.len := rfl
@[simp] theorem State.select_dataLo : (s.select).dataLo = s.dataLo := rfl
@[simp] theorem State.select_dataHi : (s.select).dataHi = s.dataHi := rfl
@[simp] theorem State.select_stBusy : (s.select).stBusy = s.stBusy := rfl
@[simp] theorem State.select_stDone : (s.select).stDone = s.stDone := rfl
@[simp] theorem State.select_stErr : (s.select).stErr = s.stErr := rfl
@[simp] theorem State.select_stOvr : (s.select).stOvr = s.stOvr := rfl
@[simp] theorem State.select_stReady : (s.select).stReady = s.stReady := rfl
@[simp] theorem State.select_errcode : (s.select).errcode = s.errcode := rfl
@[simp] theorem State.select_pollcnt : (s.select).pollcnt = s.pollcnt := rfl
@[simp] theorem State.select_lastirq : (s.select).lastirq = s.lastirq := rfl
@[simp] theorem State.select_buf : (s.select).buf = s.buf := rfl
@[simp] theorem State.select_rs : (s.select).rs = s.rs := rfl
@[simp] theorem State.select_ts : (s.select).ts = s.ts := rfl
@[simp] theorem State.select_cur : (s.select).cur = s.cur := rfl
@[simp] theorem State.select_k : (s.select).k = s.k := rfl
@[simp] theorem State.select_dly : (s.select).dly = s.dly := rfl
@[simp] theorem State.select_nclear : (s.select).nclear = s.nclear := rfl
@[simp] theorem State.select_cs : (s.select).cs = (s.params.csActive) := rfl
@[simp] theorem State.select_rstDev : (s.select).rstDev = s.rstDev := rfl
@[simp] theorem State.select_sck : (s.select).sck = s.sck := rfl
@[simp] theorem State.select_mosi : (s.select).mosi = s.mosi := rfl
@[simp] theorem State.select_evtValid : (s.select).evtValid = s.evtValid := rfl
@[simp] theorem State.select_evtCode : (s.select).evtCode = s.evtCode := rfl
@[simp] theorem State.select_hRdata : (s.select).hRdata = s.hRdata := rfl
@[simp] theorem State.select_rstN : (s.select).rstN = s.rstN := rfl
@[simp] theorem State.select_history : (s.select).history = s.history := rfl
@[simp] theorem State.select_params : (s.select).params = s.params := rfl
@[simp] theorem State.select_device : (s.select).device = s.device := rfl
@[simp] theorem State.select_lowHeld : (s.select).lowHeld = s.lowHeld := rfl
@[simp] theorem State.select_bufDraw : (s.select).bufDraw = s.bufDraw := rfl
@[simp] theorem State.select_inits : (s.select).inits = s.inits := rfl
@[simp] theorem State.select_turns : (s.select).turns = s.turns := rfl
@[simp] theorem State.select_tick : (s.select).tick = s.tick := rfl

/-! ### deselect -/

@[simp] theorem State.deselect_opLast : (s.deselect).opLast = s.opLast := rfl
@[simp] theorem State.deselect_addr : (s.deselect).addr = s.addr := rfl
@[simp] theorem State.deselect_len : (s.deselect).len = s.len := rfl
@[simp] theorem State.deselect_dataLo : (s.deselect).dataLo = s.dataLo := rfl
@[simp] theorem State.deselect_dataHi : (s.deselect).dataHi = s.dataHi := rfl
@[simp] theorem State.deselect_stBusy : (s.deselect).stBusy = s.stBusy := rfl
@[simp] theorem State.deselect_stDone : (s.deselect).stDone = s.stDone := rfl
@[simp] theorem State.deselect_stErr : (s.deselect).stErr = s.stErr := rfl
@[simp] theorem State.deselect_stOvr : (s.deselect).stOvr = s.stOvr := rfl
@[simp] theorem State.deselect_stReady : (s.deselect).stReady = s.stReady := rfl
@[simp] theorem State.deselect_errcode : (s.deselect).errcode = s.errcode := rfl
@[simp] theorem State.deselect_pollcnt : (s.deselect).pollcnt = s.pollcnt := rfl
@[simp] theorem State.deselect_lastirq : (s.deselect).lastirq = s.lastirq := rfl
@[simp] theorem State.deselect_buf : (s.deselect).buf = s.buf := rfl
@[simp] theorem State.deselect_rs : (s.deselect).rs = s.rs := rfl
@[simp] theorem State.deselect_ts : (s.deselect).ts = s.ts := rfl
@[simp] theorem State.deselect_cur : (s.deselect).cur = s.cur := rfl
@[simp] theorem State.deselect_k : (s.deselect).k = s.k := rfl
@[simp] theorem State.deselect_dly : (s.deselect).dly = s.dly := rfl
@[simp] theorem State.deselect_nclear : (s.deselect).nclear = s.nclear := rfl
@[simp] theorem State.deselect_cs : (s.deselect).cs = (!s.params.csActive) := rfl
@[simp] theorem State.deselect_rstDev : (s.deselect).rstDev = s.rstDev := rfl
@[simp] theorem State.deselect_sck : (s.deselect).sck = (false) := rfl
@[simp] theorem State.deselect_mosi : (s.deselect).mosi = (Config.mosiIdle s.tick) := rfl
@[simp] theorem State.deselect_evtValid : (s.deselect).evtValid = s.evtValid := rfl
@[simp] theorem State.deselect_evtCode : (s.deselect).evtCode = s.evtCode := rfl
@[simp] theorem State.deselect_hRdata : (s.deselect).hRdata = s.hRdata := rfl
@[simp] theorem State.deselect_rstN : (s.deselect).rstN = s.rstN := rfl
@[simp] theorem State.deselect_history : (s.deselect).history = s.history := rfl
@[simp] theorem State.deselect_params : (s.deselect).params = s.params := rfl
@[simp] theorem State.deselect_device : (s.deselect).device = s.device := rfl
@[simp] theorem State.deselect_lowHeld : (s.deselect).lowHeld = s.lowHeld := rfl
@[simp] theorem State.deselect_bufDraw : (s.deselect).bufDraw = s.bufDraw := rfl
@[simp] theorem State.deselect_inits : (s.deselect).inits = s.inits := rfl
@[simp] theorem State.deselect_turns : (s.deselect).turns = s.turns := rfl
@[simp] theorem State.deselect_tick : (s.deselect).tick = s.tick := rfl

/-! ### raise -/

@[simp] theorem State.raise_opLast (e : ErrCode) : (s.raise e).opLast = s.opLast := rfl
@[simp] theorem State.raise_addr (e : ErrCode) : (s.raise e).addr = s.addr := rfl
@[simp] theorem State.raise_len (e : ErrCode) : (s.raise e).len = s.len := rfl
@[simp] theorem State.raise_dataLo (e : ErrCode) : (s.raise e).dataLo = s.dataLo := rfl
@[simp] theorem State.raise_dataHi (e : ErrCode) : (s.raise e).dataHi = s.dataHi := rfl
@[simp] theorem State.raise_stBusy (e : ErrCode) : (s.raise e).stBusy = (false) := rfl
@[simp] theorem State.raise_stDone (e : ErrCode) : (s.raise e).stDone = (true) := rfl
@[simp] theorem State.raise_stErr (e : ErrCode) : (s.raise e).stErr = (true) := rfl
@[simp] theorem State.raise_stOvr (e : ErrCode) : (s.raise e).stOvr = s.stOvr := rfl
@[simp] theorem State.raise_stReady (e : ErrCode) : (s.raise e).stReady = s.stReady := rfl
@[simp] theorem State.raise_errcode (e : ErrCode) : (s.raise e).errcode = (e) := rfl
@[simp] theorem State.raise_pollcnt (e : ErrCode) : (s.raise e).pollcnt = s.pollcnt := rfl
@[simp] theorem State.raise_lastirq (e : ErrCode) : (s.raise e).lastirq = s.lastirq := rfl
@[simp] theorem State.raise_buf (e : ErrCode) : (s.raise e).buf = s.buf := rfl
@[simp] theorem State.raise_rs (e : ErrCode) : (s.raise e).rs = s.rs := rfl
@[simp] theorem State.raise_ts (e : ErrCode) : (s.raise e).ts = .idle := rfl
@[simp] theorem State.raise_cur (e : ErrCode) : (s.raise e).cur = (none) := rfl
@[simp] theorem State.raise_k (e : ErrCode) : (s.raise e).k = (0) := rfl
@[simp] theorem State.raise_dly (e : ErrCode) : (s.raise e).dly = (false) := rfl
@[simp] theorem State.raise_nclear (e : ErrCode) : (s.raise e).nclear = s.nclear := rfl
@[simp] theorem State.raise_cs (e : ErrCode) : (s.raise e).cs = s.cs := rfl
@[simp] theorem State.raise_rstDev (e : ErrCode) : (s.raise e).rstDev = s.rstDev := rfl
@[simp] theorem State.raise_sck (e : ErrCode) : (s.raise e).sck = s.sck := rfl
@[simp] theorem State.raise_mosi (e : ErrCode) : (s.raise e).mosi = s.mosi := rfl
@[simp] theorem State.raise_evtValid (e : ErrCode) : (s.raise e).evtValid = s.evtValid := rfl
@[simp] theorem State.raise_evtCode (e : ErrCode) : (s.raise e).evtCode = s.evtCode := rfl
@[simp] theorem State.raise_hRdata (e : ErrCode) : (s.raise e).hRdata = s.hRdata := rfl
@[simp] theorem State.raise_rstN (e : ErrCode) : (s.raise e).rstN = s.rstN := rfl
@[simp] theorem State.raise_history (e : ErrCode) : (s.raise e).history = s.history := rfl
@[simp] theorem State.raise_params (e : ErrCode) : (s.raise e).params = s.params := rfl
@[simp] theorem State.raise_device (e : ErrCode) : (s.raise e).device = s.device := rfl
@[simp] theorem State.raise_lowHeld (e : ErrCode) : (s.raise e).lowHeld = s.lowHeld := rfl
@[simp] theorem State.raise_bufDraw (e : ErrCode) : (s.raise e).bufDraw = s.bufDraw := rfl
@[simp] theorem State.raise_inits (e : ErrCode) : (s.raise e).inits = s.inits := rfl
@[simp] theorem State.raise_turns (e : ErrCode) : (s.raise e).turns = s.turns := rfl
@[simp] theorem State.raise_tick (e : ErrCode) : (s.raise e).tick = s.tick := rfl

/-! ### complete -/

@[simp] theorem State.complete_opLast : (s.complete).opLast = s.opLast := rfl
@[simp] theorem State.complete_addr : (s.complete).addr = s.addr := rfl
@[simp] theorem State.complete_len : (s.complete).len = s.len := rfl
@[simp] theorem State.complete_dataLo : (s.complete).dataLo = s.dataLo := rfl
@[simp] theorem State.complete_dataHi : (s.complete).dataHi = s.dataHi := rfl
@[simp] theorem State.complete_stBusy : (s.complete).stBusy = (false) := rfl
@[simp] theorem State.complete_stDone : (s.complete).stDone = (true) := rfl
@[simp] theorem State.complete_stErr : (s.complete).stErr = s.stErr := rfl
@[simp] theorem State.complete_stOvr : (s.complete).stOvr = s.stOvr := rfl
@[simp] theorem State.complete_stReady : (s.complete).stReady = s.stReady := rfl
@[simp] theorem State.complete_errcode : (s.complete).errcode = s.errcode := rfl
@[simp] theorem State.complete_pollcnt : (s.complete).pollcnt = s.pollcnt := rfl
@[simp] theorem State.complete_lastirq : (s.complete).lastirq = s.lastirq := rfl
@[simp] theorem State.complete_buf : (s.complete).buf = s.buf := rfl
@[simp] theorem State.complete_rs : (s.complete).rs = s.rs := rfl
@[simp] theorem State.complete_ts : (s.complete).ts = .idle := rfl
@[simp] theorem State.complete_cur : (s.complete).cur = (none) := rfl
@[simp] theorem State.complete_k : (s.complete).k = (0) := rfl
@[simp] theorem State.complete_dly : (s.complete).dly = s.dly := rfl
@[simp] theorem State.complete_nclear : (s.complete).nclear = s.nclear := rfl
@[simp] theorem State.complete_cs : (s.complete).cs = s.cs := rfl
@[simp] theorem State.complete_rstDev : (s.complete).rstDev = s.rstDev := rfl
@[simp] theorem State.complete_sck : (s.complete).sck = s.sck := rfl
@[simp] theorem State.complete_mosi : (s.complete).mosi = s.mosi := rfl
@[simp] theorem State.complete_evtValid : (s.complete).evtValid = s.evtValid := rfl
@[simp] theorem State.complete_evtCode : (s.complete).evtCode = s.evtCode := rfl
@[simp] theorem State.complete_hRdata : (s.complete).hRdata = s.hRdata := rfl
@[simp] theorem State.complete_rstN : (s.complete).rstN = s.rstN := rfl
@[simp] theorem State.complete_history : (s.complete).history = s.history := rfl
@[simp] theorem State.complete_params : (s.complete).params = s.params := rfl
@[simp] theorem State.complete_device : (s.complete).device = s.device := rfl
@[simp] theorem State.complete_lowHeld : (s.complete).lowHeld = s.lowHeld := rfl
@[simp] theorem State.complete_bufDraw : (s.complete).bufDraw = s.bufDraw := rfl
@[simp] theorem State.complete_inits : (s.complete).inits = s.inits := rfl
@[simp] theorem State.complete_turns : (s.complete).turns = s.turns := rfl
@[simp] theorem State.complete_tick : (s.complete).tick = s.tick := rfl

/-! ### exchange -/

@[simp] theorem State.exchange_opLast (tx : List Byte) (e : HistEntry) : (s.exchange tx e).opLast = s.opLast := rfl
@[simp] theorem State.exchange_addr (tx : List Byte) (e : HistEntry) : (s.exchange tx e).addr = s.addr := rfl
@[simp] theorem State.exchange_len (tx : List Byte) (e : HistEntry) : (s.exchange tx e).len = s.len := rfl
@[simp] theorem State.exchange_dataLo (tx : List Byte) (e : HistEntry) : (s.exchange tx e).dataLo = s.dataLo := rfl
@[simp] theorem State.exchange_dataHi (tx : List Byte) (e : HistEntry) : (s.exchange tx e).dataHi = s.dataHi := rfl
@[simp] theorem State.exchange_stBusy (tx : List Byte) (e : HistEntry) : (s.exchange tx e).stBusy = s.stBusy := rfl
@[simp] theorem State.exchange_stDone (tx : List Byte) (e : HistEntry) : (s.exchange tx e).stDone = s.stDone := rfl
@[simp] theorem State.exchange_stErr (tx : List Byte) (e : HistEntry) : (s.exchange tx e).stErr = s.stErr := rfl
@[simp] theorem State.exchange_stOvr (tx : List Byte) (e : HistEntry) : (s.exchange tx e).stOvr = s.stOvr := rfl
@[simp] theorem State.exchange_stReady (tx : List Byte) (e : HistEntry) : (s.exchange tx e).stReady = s.stReady := rfl
@[simp] theorem State.exchange_errcode (tx : List Byte) (e : HistEntry) : (s.exchange tx e).errcode = s.errcode := rfl
@[simp] theorem State.exchange_pollcnt (tx : List Byte) (e : HistEntry) : (s.exchange tx e).pollcnt = s.pollcnt := rfl
@[simp] theorem State.exchange_lastirq (tx : List Byte) (e : HistEntry) : (s.exchange tx e).lastirq = s.lastirq := rfl
@[simp] theorem State.exchange_buf (tx : List Byte) (e : HistEntry) : (s.exchange tx e).buf = s.buf := rfl
@[simp] theorem State.exchange_rs (tx : List Byte) (e : HistEntry) : (s.exchange tx e).rs = s.rs := rfl
@[simp] theorem State.exchange_ts (tx : List Byte) (e : HistEntry) : (s.exchange tx e).ts = s.ts := rfl
@[simp] theorem State.exchange_cur (tx : List Byte) (e : HistEntry) : (s.exchange tx e).cur = s.cur := rfl
@[simp] theorem State.exchange_k (tx : List Byte) (e : HistEntry) : (s.exchange tx e).k = s.k := rfl
@[simp] theorem State.exchange_dly (tx : List Byte) (e : HistEntry) : (s.exchange tx e).dly = s.dly := rfl
@[simp] theorem State.exchange_nclear (tx : List Byte) (e : HistEntry) : (s.exchange tx e).nclear = s.nclear := rfl
@[simp] theorem State.exchange_cs (tx : List Byte) (e : HistEntry) : (s.exchange tx e).cs = (!s.params.csActive) := rfl
@[simp] theorem State.exchange_rstDev (tx : List Byte) (e : HistEntry) : (s.exchange tx e).rstDev = s.rstDev := rfl
@[simp] theorem State.exchange_sck (tx : List Byte) (e : HistEntry) : (s.exchange tx e).sck = (false) := rfl
@[simp] theorem State.exchange_mosi (tx : List Byte) (e : HistEntry) : (s.exchange tx e).mosi = (Config.mosiIdle s.tick) := rfl
@[simp] theorem State.exchange_evtValid (tx : List Byte) (e : HistEntry) : (s.exchange tx e).evtValid = s.evtValid := rfl
@[simp] theorem State.exchange_evtCode (tx : List Byte) (e : HistEntry) : (s.exchange tx e).evtCode = s.evtCode := rfl
@[simp] theorem State.exchange_hRdata (tx : List Byte) (e : HistEntry) : (s.exchange tx e).hRdata = s.hRdata := rfl
@[simp] theorem State.exchange_rstN (tx : List Byte) (e : HistEntry) : (s.exchange tx e).rstN = s.rstN := rfl
@[simp] theorem State.exchange_history (tx : List Byte) (e : HistEntry) : (s.exchange tx e).history = (s.history ++ [e]) := rfl
@[simp] theorem State.exchange_params (tx : List Byte) (e : HistEntry) : (s.exchange tx e).params = s.params := rfl
@[simp] theorem State.exchange_device (tx : List Byte) (e : HistEntry) : (s.exchange tx e).device = (s.deviceAfter tx) := rfl
@[simp] theorem State.exchange_lowHeld (tx : List Byte) (e : HistEntry) : (s.exchange tx e).lowHeld = s.lowHeld := rfl
@[simp] theorem State.exchange_bufDraw (tx : List Byte) (e : HistEntry) : (s.exchange tx e).bufDraw = s.bufDraw := rfl
@[simp] theorem State.exchange_inits (tx : List Byte) (e : HistEntry) : (s.exchange tx e).inits = s.inits := rfl
@[simp] theorem State.exchange_turns (tx : List Byte) (e : HistEntry) : (s.exchange tx e).turns = s.turns := rfl
@[simp] theorem State.exchange_tick (tx : List Byte) (e : HistEntry) : (s.exchange tx e).tick = s.tick := rfl

/-! ### setOvr -/

@[simp] theorem State.setOvr_opLast : (s.setOvr).opLast = s.opLast := rfl
@[simp] theorem State.setOvr_addr : (s.setOvr).addr = s.addr := rfl
@[simp] theorem State.setOvr_len : (s.setOvr).len = s.len := rfl
@[simp] theorem State.setOvr_dataLo : (s.setOvr).dataLo = s.dataLo := rfl
@[simp] theorem State.setOvr_dataHi : (s.setOvr).dataHi = s.dataHi := rfl
@[simp] theorem State.setOvr_stBusy : (s.setOvr).stBusy = s.stBusy := rfl
@[simp] theorem State.setOvr_stDone : (s.setOvr).stDone = s.stDone := rfl
@[simp] theorem State.setOvr_stErr : (s.setOvr).stErr = s.stErr := rfl
@[simp] theorem State.setOvr_stOvr : (s.setOvr).stOvr = (true) := rfl
@[simp] theorem State.setOvr_stReady : (s.setOvr).stReady = s.stReady := rfl
@[simp] theorem State.setOvr_errcode : (s.setOvr).errcode = s.errcode := rfl
@[simp] theorem State.setOvr_pollcnt : (s.setOvr).pollcnt = s.pollcnt := rfl
@[simp] theorem State.setOvr_lastirq : (s.setOvr).lastirq = s.lastirq := rfl
@[simp] theorem State.setOvr_buf : (s.setOvr).buf = s.buf := rfl
@[simp] theorem State.setOvr_rs : (s.setOvr).rs = s.rs := rfl
@[simp] theorem State.setOvr_ts : (s.setOvr).ts = s.ts := rfl
@[simp] theorem State.setOvr_cur : (s.setOvr).cur = s.cur := rfl
@[simp] theorem State.setOvr_k : (s.setOvr).k = s.k := rfl
@[simp] theorem State.setOvr_dly : (s.setOvr).dly = s.dly := rfl
@[simp] theorem State.setOvr_nclear : (s.setOvr).nclear = s.nclear := rfl
@[simp] theorem State.setOvr_cs : (s.setOvr).cs = s.cs := rfl
@[simp] theorem State.setOvr_rstDev : (s.setOvr).rstDev = s.rstDev := rfl
@[simp] theorem State.setOvr_sck : (s.setOvr).sck = s.sck := rfl
@[simp] theorem State.setOvr_mosi : (s.setOvr).mosi = s.mosi := rfl
@[simp] theorem State.setOvr_evtValid : (s.setOvr).evtValid = s.evtValid := rfl
@[simp] theorem State.setOvr_evtCode : (s.setOvr).evtCode = s.evtCode := rfl
@[simp] theorem State.setOvr_hRdata : (s.setOvr).hRdata = s.hRdata := rfl
@[simp] theorem State.setOvr_rstN : (s.setOvr).rstN = s.rstN := rfl
@[simp] theorem State.setOvr_history : (s.setOvr).history = s.history := rfl
@[simp] theorem State.setOvr_params : (s.setOvr).params = s.params := rfl
@[simp] theorem State.setOvr_device : (s.setOvr).device = s.device := rfl
@[simp] theorem State.setOvr_lowHeld : (s.setOvr).lowHeld = s.lowHeld := rfl
@[simp] theorem State.setOvr_bufDraw : (s.setOvr).bufDraw = s.bufDraw := rfl
@[simp] theorem State.setOvr_inits : (s.setOvr).inits = s.inits := rfl
@[simp] theorem State.setOvr_turns : (s.setOvr).turns = s.turns := rfl
@[simp] theorem State.setOvr_tick : (s.setOvr).tick = s.tick := rfl

/-! ### w1cStatus -/

@[simp] theorem State.w1cStatus_opLast (v : Byte) : (s.w1cStatus v).opLast = s.opLast := rfl
@[simp] theorem State.w1cStatus_addr (v : Byte) : (s.w1cStatus v).addr = s.addr := rfl
@[simp] theorem State.w1cStatus_len (v : Byte) : (s.w1cStatus v).len = s.len := rfl
@[simp] theorem State.w1cStatus_dataLo (v : Byte) : (s.w1cStatus v).dataLo = s.dataLo := rfl
@[simp] theorem State.w1cStatus_dataHi (v : Byte) : (s.w1cStatus v).dataHi = s.dataHi := rfl
@[simp] theorem State.w1cStatus_stBusy (v : Byte) : (s.w1cStatus v).stBusy = s.stBusy := rfl
@[simp] theorem State.w1cStatus_stDone (v : Byte) : (s.w1cStatus v).stDone = ((s.stDone && !v.getLsbD 1)) := rfl
@[simp] theorem State.w1cStatus_stErr (v : Byte) : (s.w1cStatus v).stErr = ((s.stErr && !v.getLsbD 2)) := rfl
@[simp] theorem State.w1cStatus_stOvr (v : Byte) : (s.w1cStatus v).stOvr = ((s.stOvr && !v.getLsbD 3)) := rfl
@[simp] theorem State.w1cStatus_stReady (v : Byte) : (s.w1cStatus v).stReady = s.stReady := rfl
@[simp] theorem State.w1cStatus_errcode (v : Byte) : (s.w1cStatus v).errcode = s.errcode := rfl
@[simp] theorem State.w1cStatus_pollcnt (v : Byte) : (s.w1cStatus v).pollcnt = s.pollcnt := rfl
@[simp] theorem State.w1cStatus_lastirq (v : Byte) : (s.w1cStatus v).lastirq = s.lastirq := rfl
@[simp] theorem State.w1cStatus_buf (v : Byte) : (s.w1cStatus v).buf = s.buf := rfl
@[simp] theorem State.w1cStatus_rs (v : Byte) : (s.w1cStatus v).rs = s.rs := rfl
@[simp] theorem State.w1cStatus_ts (v : Byte) : (s.w1cStatus v).ts = s.ts := rfl
@[simp] theorem State.w1cStatus_cur (v : Byte) : (s.w1cStatus v).cur = s.cur := rfl
@[simp] theorem State.w1cStatus_k (v : Byte) : (s.w1cStatus v).k = s.k := rfl
@[simp] theorem State.w1cStatus_dly (v : Byte) : (s.w1cStatus v).dly = s.dly := rfl
@[simp] theorem State.w1cStatus_nclear (v : Byte) : (s.w1cStatus v).nclear = s.nclear := rfl
@[simp] theorem State.w1cStatus_cs (v : Byte) : (s.w1cStatus v).cs = s.cs := rfl
@[simp] theorem State.w1cStatus_rstDev (v : Byte) : (s.w1cStatus v).rstDev = s.rstDev := rfl
@[simp] theorem State.w1cStatus_sck (v : Byte) : (s.w1cStatus v).sck = s.sck := rfl
@[simp] theorem State.w1cStatus_mosi (v : Byte) : (s.w1cStatus v).mosi = s.mosi := rfl
@[simp] theorem State.w1cStatus_evtValid (v : Byte) : (s.w1cStatus v).evtValid = s.evtValid := rfl
@[simp] theorem State.w1cStatus_evtCode (v : Byte) : (s.w1cStatus v).evtCode = s.evtCode := rfl
@[simp] theorem State.w1cStatus_hRdata (v : Byte) : (s.w1cStatus v).hRdata = s.hRdata := rfl
@[simp] theorem State.w1cStatus_rstN (v : Byte) : (s.w1cStatus v).rstN = s.rstN := rfl
@[simp] theorem State.w1cStatus_history (v : Byte) : (s.w1cStatus v).history = s.history := rfl
@[simp] theorem State.w1cStatus_params (v : Byte) : (s.w1cStatus v).params = s.params := rfl
@[simp] theorem State.w1cStatus_device (v : Byte) : (s.w1cStatus v).device = s.device := rfl
@[simp] theorem State.w1cStatus_lowHeld (v : Byte) : (s.w1cStatus v).lowHeld = s.lowHeld := rfl
@[simp] theorem State.w1cStatus_bufDraw (v : Byte) : (s.w1cStatus v).bufDraw = s.bufDraw := rfl
@[simp] theorem State.w1cStatus_inits (v : Byte) : (s.w1cStatus v).inits = s.inits := rfl
@[simp] theorem State.w1cStatus_turns (v : Byte) : (s.w1cStatus v).turns = s.turns := rfl
@[simp] theorem State.w1cStatus_tick (v : Byte) : (s.w1cStatus v).tick = s.tick := rfl

/-! ### begin -/

@[simp] theorem State.begin_opLast : (s.begin).opLast = s.opLast := rfl
@[simp] theorem State.begin_addr : (s.begin).addr = s.addr := rfl
@[simp] theorem State.begin_len : (s.begin).len = s.len := rfl
@[simp] theorem State.begin_dataLo : (s.begin).dataLo = s.dataLo := rfl
@[simp] theorem State.begin_dataHi : (s.begin).dataHi = s.dataHi := rfl
@[simp] theorem State.begin_stBusy : (s.begin).stBusy = s.stBusy := rfl
@[simp] theorem State.begin_stDone : (s.begin).stDone = s.stDone := rfl
@[simp] theorem State.begin_stErr : (s.begin).stErr = s.stErr := rfl
@[simp] theorem State.begin_stOvr : (s.begin).stOvr = s.stOvr := rfl
@[simp] theorem State.begin_stReady : (s.begin).stReady = s.stReady := rfl
@[simp] theorem State.begin_errcode : (s.begin).errcode = s.errcode := rfl
@[simp] theorem State.begin_pollcnt : (s.begin).pollcnt = s.pollcnt := rfl
@[simp] theorem State.begin_lastirq : (s.begin).lastirq = s.lastirq := rfl
@[simp] theorem State.begin_buf : (s.begin).buf = s.buf := rfl
@[simp] theorem State.begin_rs : (s.begin).rs = s.rs := rfl
@[simp] theorem State.begin_ts : (s.begin).ts = s.ts := rfl
@[simp] theorem State.begin_cur : (s.begin).cur = s.cur := rfl
@[simp] theorem State.begin_k : (s.begin).k = s.k := rfl
@[simp] theorem State.begin_dly : (s.begin).dly = s.dly := rfl
@[simp] theorem State.begin_nclear : (s.begin).nclear = s.nclear := rfl
@[simp] theorem State.begin_cs : (s.begin).cs = s.cs := rfl
@[simp] theorem State.begin_rstDev : (s.begin).rstDev = s.rstDev := rfl
@[simp] theorem State.begin_sck : (s.begin).sck = s.sck := rfl
@[simp] theorem State.begin_mosi : (s.begin).mosi = s.mosi := rfl
@[simp] theorem State.begin_evtValid : (s.begin).evtValid = (false) := rfl
@[simp] theorem State.begin_evtCode : (s.begin).evtCode = s.evtCode := rfl
@[simp] theorem State.begin_hRdata : (s.begin).hRdata = s.hRdata := rfl
@[simp] theorem State.begin_rstN : (s.begin).rstN = s.rstN := rfl
@[simp] theorem State.begin_history : (s.begin).history = s.history := rfl
@[simp] theorem State.begin_params : (s.begin).params = s.params := rfl
@[simp] theorem State.begin_device : (s.begin).device = s.device := rfl
@[simp] theorem State.begin_lowHeld : (s.begin).lowHeld = s.lowHeld := rfl
@[simp] theorem State.begin_bufDraw : (s.begin).bufDraw = s.bufDraw := rfl
@[simp] theorem State.begin_inits : (s.begin).inits = s.inits := rfl
@[simp] theorem State.begin_turns : (s.begin).turns = (s.turns.drop 1) := rfl
@[simp] theorem State.begin_tick : (s.begin).tick = (s.tick + 1) := rfl

/-! ### hostRead -/

@[simp] theorem State.hostRead_opLast (a : HostAddr) : (s.hostRead a).opLast = s.opLast := rfl
@[simp] theorem State.hostRead_addr (a : HostAddr) : (s.hostRead a).addr = s.addr := rfl
@[simp] theorem State.hostRead_len (a : HostAddr) : (s.hostRead a).len = s.len := rfl
@[simp] theorem State.hostRead_dataLo (a : HostAddr) : (s.hostRead a).dataLo = s.dataLo := rfl
@[simp] theorem State.hostRead_dataHi (a : HostAddr) : (s.hostRead a).dataHi = s.dataHi := rfl
@[simp] theorem State.hostRead_stBusy (a : HostAddr) : (s.hostRead a).stBusy = s.stBusy := rfl
@[simp] theorem State.hostRead_stDone (a : HostAddr) : (s.hostRead a).stDone = s.stDone := rfl
@[simp] theorem State.hostRead_stErr (a : HostAddr) : (s.hostRead a).stErr = s.stErr := rfl
@[simp] theorem State.hostRead_stOvr (a : HostAddr) : (s.hostRead a).stOvr = s.stOvr := rfl
@[simp] theorem State.hostRead_stReady (a : HostAddr) : (s.hostRead a).stReady = s.stReady := rfl
@[simp] theorem State.hostRead_errcode (a : HostAddr) : (s.hostRead a).errcode = s.errcode := rfl
@[simp] theorem State.hostRead_pollcnt (a : HostAddr) : (s.hostRead a).pollcnt = s.pollcnt := rfl
@[simp] theorem State.hostRead_lastirq (a : HostAddr) : (s.hostRead a).lastirq = s.lastirq := rfl
@[simp] theorem State.hostRead_buf (a : HostAddr) : (s.hostRead a).buf = s.buf := rfl
@[simp] theorem State.hostRead_rs (a : HostAddr) : (s.hostRead a).rs = s.rs := rfl
@[simp] theorem State.hostRead_ts (a : HostAddr) : (s.hostRead a).ts = s.ts := rfl
@[simp] theorem State.hostRead_cur (a : HostAddr) : (s.hostRead a).cur = s.cur := rfl
@[simp] theorem State.hostRead_k (a : HostAddr) : (s.hostRead a).k = s.k := rfl
@[simp] theorem State.hostRead_dly (a : HostAddr) : (s.hostRead a).dly = s.dly := rfl
@[simp] theorem State.hostRead_nclear (a : HostAddr) : (s.hostRead a).nclear = s.nclear := rfl
@[simp] theorem State.hostRead_cs (a : HostAddr) : (s.hostRead a).cs = s.cs := rfl
@[simp] theorem State.hostRead_rstDev (a : HostAddr) : (s.hostRead a).rstDev = s.rstDev := rfl
@[simp] theorem State.hostRead_sck (a : HostAddr) : (s.hostRead a).sck = s.sck := rfl
@[simp] theorem State.hostRead_mosi (a : HostAddr) : (s.hostRead a).mosi = s.mosi := rfl
@[simp] theorem State.hostRead_evtValid (a : HostAddr) : (s.hostRead a).evtValid = s.evtValid := rfl
@[simp] theorem State.hostRead_evtCode (a : HostAddr) : (s.hostRead a).evtCode = s.evtCode := rfl
@[simp] theorem State.hostRead_hRdata (a : HostAddr) : (s.hostRead a).hRdata = (s.readReg a) := rfl
@[simp] theorem State.hostRead_rstN (a : HostAddr) : (s.hostRead a).rstN = s.rstN := rfl
@[simp] theorem State.hostRead_history (a : HostAddr) : (s.hostRead a).history = s.history := rfl
@[simp] theorem State.hostRead_params (a : HostAddr) : (s.hostRead a).params = s.params := rfl
@[simp] theorem State.hostRead_device (a : HostAddr) : (s.hostRead a).device = s.device := rfl
@[simp] theorem State.hostRead_lowHeld (a : HostAddr) : (s.hostRead a).lowHeld = s.lowHeld := rfl
@[simp] theorem State.hostRead_bufDraw (a : HostAddr) : (s.hostRead a).bufDraw = s.bufDraw := rfl
@[simp] theorem State.hostRead_inits (a : HostAddr) : (s.hostRead a).inits = s.inits := rfl
@[simp] theorem State.hostRead_turns (a : HostAddr) : (s.hostRead a).turns = s.turns := rfl
@[simp] theorem State.hostRead_tick (a : HostAddr) : (s.hostRead a).tick = s.tick := rfl

/-! ### hostWait -/

@[simp] theorem State.hostWait_opLast (gaps : List Nat) : (s.hostWait gaps).opLast = s.opLast := rfl
@[simp] theorem State.hostWait_addr (gaps : List Nat) : (s.hostWait gaps).addr = s.addr := rfl
@[simp] theorem State.hostWait_len (gaps : List Nat) : (s.hostWait gaps).len = s.len := rfl
@[simp] theorem State.hostWait_dataLo (gaps : List Nat) : (s.hostWait gaps).dataLo = s.dataLo := rfl
@[simp] theorem State.hostWait_dataHi (gaps : List Nat) : (s.hostWait gaps).dataHi = s.dataHi := rfl
@[simp] theorem State.hostWait_stBusy (gaps : List Nat) : (s.hostWait gaps).stBusy = s.stBusy := rfl
@[simp] theorem State.hostWait_stDone (gaps : List Nat) : (s.hostWait gaps).stDone = s.stDone := rfl
@[simp] theorem State.hostWait_stErr (gaps : List Nat) : (s.hostWait gaps).stErr = s.stErr := rfl
@[simp] theorem State.hostWait_stOvr (gaps : List Nat) : (s.hostWait gaps).stOvr = s.stOvr := rfl
@[simp] theorem State.hostWait_stReady (gaps : List Nat) : (s.hostWait gaps).stReady = s.stReady := rfl
@[simp] theorem State.hostWait_errcode (gaps : List Nat) : (s.hostWait gaps).errcode = s.errcode := rfl
@[simp] theorem State.hostWait_pollcnt (gaps : List Nat) : (s.hostWait gaps).pollcnt = s.pollcnt := rfl
@[simp] theorem State.hostWait_lastirq (gaps : List Nat) : (s.hostWait gaps).lastirq = s.lastirq := rfl
@[simp] theorem State.hostWait_buf (gaps : List Nat) : (s.hostWait gaps).buf = s.buf := rfl
@[simp] theorem State.hostWait_rs (gaps : List Nat) : (s.hostWait gaps).rs = s.rs := rfl
@[simp] theorem State.hostWait_ts (gaps : List Nat) : (s.hostWait gaps).ts = s.ts := rfl
@[simp] theorem State.hostWait_cur (gaps : List Nat) : (s.hostWait gaps).cur = s.cur := rfl
@[simp] theorem State.hostWait_k (gaps : List Nat) : (s.hostWait gaps).k = s.k := rfl
@[simp] theorem State.hostWait_dly (gaps : List Nat) : (s.hostWait gaps).dly = s.dly := rfl
@[simp] theorem State.hostWait_nclear (gaps : List Nat) : (s.hostWait gaps).nclear = s.nclear := rfl
@[simp] theorem State.hostWait_cs (gaps : List Nat) : (s.hostWait gaps).cs = s.cs := rfl
@[simp] theorem State.hostWait_rstDev (gaps : List Nat) : (s.hostWait gaps).rstDev = s.rstDev := rfl
@[simp] theorem State.hostWait_sck (gaps : List Nat) : (s.hostWait gaps).sck = s.sck := rfl
@[simp] theorem State.hostWait_mosi (gaps : List Nat) : (s.hostWait gaps).mosi = s.mosi := rfl
@[simp] theorem State.hostWait_evtValid (gaps : List Nat) : (s.hostWait gaps).evtValid = s.evtValid := rfl
@[simp] theorem State.hostWait_evtCode (gaps : List Nat) : (s.hostWait gaps).evtCode = s.evtCode := rfl
@[simp] theorem State.hostWait_hRdata (gaps : List Nat) : (s.hostWait gaps).hRdata = (s.readReg 0x005) := rfl
@[simp] theorem State.hostWait_rstN (gaps : List Nat) : (s.hostWait gaps).rstN = s.rstN := rfl
@[simp] theorem State.hostWait_history (gaps : List Nat) : (s.hostWait gaps).history = s.history := rfl
@[simp] theorem State.hostWait_params (gaps : List Nat) : (s.hostWait gaps).params = s.params := rfl
@[simp] theorem State.hostWait_device (gaps : List Nat) : (s.hostWait gaps).device = s.device := rfl
@[simp] theorem State.hostWait_lowHeld (gaps : List Nat) : (s.hostWait gaps).lowHeld = s.lowHeld := rfl
@[simp] theorem State.hostWait_bufDraw (gaps : List Nat) : (s.hostWait gaps).bufDraw = s.bufDraw := rfl
@[simp] theorem State.hostWait_inits (gaps : List Nat) : (s.hostWait gaps).inits = s.inits := rfl
@[simp] theorem State.hostWait_turns (gaps : List Nat) : (s.hostWait gaps).turns = (if (s.readReg 0x005).getLsbD 0 then waitTurns gaps ++ s.turns else s.turns) := rfl
@[simp] theorem State.hostWait_tick (gaps : List Nat) : (s.hostWait gaps).tick = s.tick := rfl

end Sys2Proof.Machine
end

