-- ==== Sys2Proof/Laws/Ops.lean ====
section
/-! SUPPORT. What each shared operation can do, said once. -/
namespace Sys2Proof.Machine

/-! ### Transfer and frames -/

/-- An answer is as long as the frame it answers. -/
theorem misoBytes_length (tick : Nat) (tx rx : List Byte) : (misoBytes tick tx rx).length = tx.length := by
  simp [misoBytes]

/-- An answer that lists every position is what is received. -/
theorem misoBytes_full (tick : Nat) {tx rx : List Byte} (h : rx.length = tx.length) : misoBytes tick tx rx = rx := by
  apply List.ext_getElem
  · simp [misoBytes, h]
  · intro i h1 h2
    simp [misoBytes, List.getD, List.getElem?_eq_getElem h2]

/-- REFDEV answers every position of a frame. -/
theorem RefDev.positions_length (write fifo : Bool) (r : RefDev) (p : DevAddr) (bs : List Byte) :
    (RefDev.positions write fifo r p bs).2.length = bs.length := by
  induction bs generalizing r p with
  | nil => rfl
  | cons b bs ih => simp [RefDev.positions, ih]

/-- The bytes received are as many as the bytes sent (00_scope.md R12). -/
theorem State.answer_length {s : State} {tx rx : List Byte} (h : s.answer tx = some rx) :
    rx.length = tx.length := by
  unfold State.answer Device.transfer at h
  split at h
  · simp only [Option.some.injEq] at h
    subst h
    cases tx with
    | nil => rfl
    | cons hd tl => simp [RefDev.frame, RefDev.positions_length]
  · split at h
    · simp only [Option.some.injEq] at h
      rw [← h, misoBytes_length]
    · simp at h
  · simp only [Option.some.injEq] at h
    rw [← h, misoBytes_length]
  · simp at h

/-- A listed answer that has the frame's length is what the frame receives. -/
theorem State.answer_listed {s : State} {tx rx : List Byte} {rest : List Reply}
    (hd : s.device = .unconstrained (.ok rx :: rest)) (hl : rx.length = tx.length) : s.answer tx = some rx := by
  simp [State.answer, hd, Device.transfer, misoBytes_full s.tick hl]

/-- After a listed answer the device has the rest of the list. -/
theorem State.deviceAfter_listed {s : State} {tx rx : List Byte} {rest : List Reply}
    (hd : s.device = .unconstrained (.ok rx :: rest)) : s.deviceAfter tx = .unconstrained rest := by
  simp [State.deviceAfter, hd, Device.transfer]

/-- A frame that succeeds: its entry is recorded and the command goes on. -/
theorem State.runFrame_ok {s : State} {tx rx : List Byte} (f : List Byte → State → State)
    (h : s.answer tx = some rx) : s.runFrame tx f = f rx (s.exchange tx (.frame tx rx)) := by
  simp [State.runFrame, h]

/-- A frame that fails: its entry is recorded and BUS is raised. -/
theorem State.runFrame_fail {s : State} {tx : List Byte} (f : List Byte → State → State)
    (h : s.answer tx = none) : s.runFrame tx f = (s.exchange tx (.fail tx)).raise .bus := by
  simp [State.runFrame, h]

/-- Everything a frame can do. -/
theorem State.runFrame_cases (s : State) (tx : List Byte) (f : List Byte → State → State) :
    (∃ rx, s.answer tx = some rx ∧ rx.length = tx.length ∧
      s.runFrame tx f = f rx (s.exchange tx (.frame tx rx))) ∨
    (s.answer tx = none ∧ s.runFrame tx f = (s.exchange tx (.fail tx)).raise .bus) := by
  cases h : s.answer tx with
  | none => exact .inr ⟨rfl, State.runFrame_fail f h⟩
  | some rx => exact .inl ⟨rx, rfl, State.answer_length h, State.runFrame_ok f h⟩

/-! ### The device's own data -/

/-- REFDEV stays canonical over the positions of a frame. -/
theorem RefDev.memRead_wf {r : RefDev} (p : DevAddr) (h : r.wf = true) : (r.memRead p).1.wf = true := by
  simp only [RefDev.wf, Bool.and_eq_true] at h ⊢
  unfold RefDev.memRead
  split
  · exact h
  · split
    · exact ⟨Memory.wf_store h.1 (by decide), h.2⟩
    · exact h

theorem RefDev.memWrite_wf {r : RefDev} (p : DevAddr) (v : Byte) (h : r.wf = true) :
    (r.memWrite p v).wf = true := by
  have hp : p.toNat < 128 := p.isLt
  have hf : r.fp.toNat < 256 := r.fp.isLt
  simp only [RefDev.wf, Bool.and_eq_true] at h ⊢
  unfold RefDev.memWrite
  split
  · exact ⟨h.1, Memory.wf_store h.2 hf⟩
  · split
    · exact ⟨Memory.wf_store h.1 (by decide), h.2⟩
    · split <;> exact ⟨Memory.wf_store h.1 hp, h.2⟩

theorem RefDev.positions_wf (write fifo : Bool) {r : RefDev} (p : DevAddr) (bs : List Byte) (h : r.wf = true) :
    (RefDev.positions write fifo r p bs).1.wf = true := by
  induction bs generalizing r p with
  | nil => exact h
  | cons b bs ih =>
    cases write with
    | false => exact ih _ (RefDev.memRead_wf p h)
    | true => exact ih _ (RefDev.memWrite_wf p b h)

/-- A transfer keeps the device's data canonical. -/
theorem State.deviceAfter_wf {s : State} (tx : List Byte) (h : s.device.wf = true) :
    (s.deviceAfter tx).wf = true := by
  unfold State.deviceAfter Device.transfer
  split
  · rename_i r hr
    rw [hr] at h
    cases tx with
    | nil => exact h
    | cons hd tl => exact RefDev.positions_wf _ _ _ _ h
  all_goals rfl

/-! ### Operands -/

/-- The host value splits into the two registers it is made of. -/
theorem wordLo_hostWord (hi lo : Byte) : wordLo (hostWord hi lo) = lo := by
  apply BitVec.eq_of_getLsbD_eq
  intro i hi'
  simp only [wordLo, hostWord]
  have : i < 8 := hi'
  interval_cases i <;> simp

theorem wordHi_hostWord (hi lo : Byte) : wordHi (hostWord hi lo) = hi := by
  apply BitVec.eq_of_getLsbD_eq
  intro i hi'
  simp only [wordHi, hostWord]
  have : i < 8 := hi'
  interval_cases i <;> simp

/-- The word result splits into the bytes it is made of: the first received is the high byte. -/
theorem wordHi_wireWord (h l : Byte) : wordHi (wireWord h l) = h := wordHi_hostWord h l

theorem wordLo_wireWord (h l : Byte) : wordLo (wireWord h l) = l := wordLo_hostWord h l

/-! ### Acceptance and turns -/

/-- Everything acceptance can do (R25, R171, R173, R175). -/
theorem State.accept_cases (op : Opcode) (s : State) :
    (s.rs = .failed ∧ s.accept op =
      { s with opLast := op, stDone := true, stErr := true, errcode := .init, stBusy := false, cur := none, k := 0,
               dly := false, ts := .idle }) ∨
    (s.rs ≠ .failed ∧ decodeOp op = none ∧ s.accept op =
      { s with opLast := op, stDone := true, stErr := true, errcode := .illegalOp, stBusy := false, cur := none, k := 0,
               dly := false, ts := .idle }) ∨
    (s.rs ≠ .failed ∧ decodeOp op ≠ none ∧ s.accept op =
      { s with opLast := op, stDone := false, stErr := false, errcode := .noError, stBusy := true, cur := some op,
               k := 0 }) := by
  by_cases h1 : s.rs = .failed
  · exact .inl ⟨h1, by simp [State.accept, h1, State.raise]⟩
  · by_cases h2 : decodeOp op = none
    · exact .inr (.inl ⟨h1, h2, by simp [State.accept, h1, h2, State.raise]⟩)
    · exact .inr (.inr ⟨h1, h2, by simp [State.accept, h1, h2]⟩)

/-- Bit 0 of STATUS as the host reads it is BUSY (R27). -/
theorem State.readReg_status_busy (s : State) : (s.readReg 0x005).getLsbD 0 = s.stBusy := by
  cases h0 : s.stBusy <;> cases h1 : s.stDone <;> cases h2 : s.stErr <;> cases h3 : s.stOvr <;> cases h4 : s.stReady <;>
    simp [State.readReg, State.statusByte, bitAt, h0, h1, h2, h3, h4]

/-- The same in simp's spelling of the address and of a bit. -/
@[simp] theorem State.readReg_status_getElem (s : State) : (s.readReg 5#9)[0] = s.stBusy := by
  rw [← State.readReg_status_busy, BitVec.getLsbD_eq_getElem (by decide)]
  rfl

/-- A round of `wait` at a busy block: the block's steps are next, then the loop again (30_encoding.md R82). -/
theorem State.hostWait_busy {s : State} (gaps : List Nat) (h : s.stBusy = true) :
    (s.hostWait gaps).turns = List.replicate (gaps.headD 1) .block ++ .wait (gaps.drop 1) :: s.turns := by
  simp [waitTurns, h]

/-- The round of `wait` that reads BUSY 0 ends the loop (R82). -/
theorem State.hostWait_idle {s : State} (gaps : List Nat) (h : s.stBusy = false) :
    (s.hostWait gaps).turns = s.turns := by
  simp only [State.hostWait_turns, State.readReg_status_busy, h, Bool.false_eq_true, ↓reduceIte]

/-- A step with the block's turn is the block's micro-step. -/
theorem step_block {s : State} (h : s.turn = .block) : step s = blockStep s.begin := by
  simp [step, takeTurn, h]

/-- The micro-step of a ready block with a command is that command's meaning. -/
theorem blockStep_running {s : State} {op : Opcode} {i : Instr} (hr : s.rstN = true) (hp : s.rs = .ready)
    (hc : s.cur = some op) (hd : decodeOp op = some i) : blockStep s = exec i s := by
  simp [blockStep, hr, hp, hc, hd]

/-- Steps compose. -/
theorem stepN_succ {s t : State} (n : Nat) (h : step s = .next t) : stepN (n + 1) s = stepN n t := by
  simp [stepN, h]

/-- Runs compose. -/
theorem stepN_add {s t : State} (m n : Nat) (h : stepN m s = .next t) : stepN (m + n) s = stepN n t := by
  induction m generalizing s with
  | zero =>
    simp only [stepN, Host.Outcome.next.injEq] at h
    rw [Nat.zero_add, h]
  | succ m ih =>
    rw [Nat.succ_add]
    simp only [stepN] at h ⊢
    cases hs : step s with
    | next u => rw [hs] at h; exact ih h
    | fault r => rw [hs] at h; cases h
    | refused r => rw [hs] at h; cases h

end Sys2Proof.Machine
end

