-- ==== Sys2Proof/Laws/Exec.lean ====
section
/-! SUPPORT. Everything a micro-step of a command can do, said once. -/
namespace Sys2Proof.Machine

/-- The frames a command's micro-step can send: the command, the state before, the state in which the frame is
sent, the frame, and what happens with the bytes received. -/
inductive FrameStep : Instr → State → State → List Byte → (List Byte → State → State) → Prop where
  | rdb (s : State) : FrameStep .rdb s s (rdbTx s.addr)
      (fun rx t => ({ t with dataLo := rxByte rx 1, dataHi := 0x00 } : State).complete)
  | rdw (s : State) : FrameStep .rdw s s (rdwTx s.addr)
      (fun rx t => ({ t with dataHi := wordHi (wireWord (rxByte rx 1) (rxByte rx 2)),
                             dataLo := wordLo (wireWord (rxByte rx 1) (rxByte rx 2)) } : State).complete)
  | rdblk (s : State) : FrameStep .rdblk s s (rdblkTx s.addr s.len)
      (fun rx t => ({ t with buf := bufStoreAll t.buf 0 (rx.drop 1) } : State).complete)
  | wrb (s : State) : FrameStep .wrb s s (wrbTx s.addr s.dataLo) (fun _ t => t.complete)
  | wrw (s : State) : FrameStep .wrw s s (wrwTx s.addr (hostWord s.dataHi s.dataLo)) (fun _ t => t.complete)
  | wrblk (s : State) : FrameStep .wrblk s s (wrblkTx s.addr (s.bufBytes s.len.toNat)) (fun _ t => t.complete)
  | dump (s : State) (hk : s.k ≤ Config.dumpLast) : FrameStep .dump s s (dumpTx s.k) dumpResult
  | configSleep (s : State) (hk : s.k = 0) : FrameStep .config s s configSleepTx (fun _ t => { t with k := 1 })
  | configFrf (s : State) (hk : s.k = 1) : FrameStep .config s s (configFrfTx s.params.frfCode)
      (fun _ t => { t with k := 2 })
  | configPa (s : State) (hk : s.k = 2) : FrameStep .config s s configPaTx (fun _ t => t.complete)
  | l1 (s : State) (hts : s.ts = .idle) : FrameStep .txcycle s (({ s with ts := .loading } : State).emit .loading)
      loadBaseTx (fun _ t => { t with k := 1 })
  | l2 (s : State) (hts : s.ts = .loading) (hk : s.k = 1) : FrameStep .txcycle s s loadPtrTx
      (fun _ t => { t with k := 2 })
  | l3 (s : State) (hts : s.ts = .loading) (hk : s.k = 2) : FrameStep .txcycle s s
      (loadPayloadTx (s.bufBytes s.len.toNat)) (fun _ t => { t with k := 3 })
  | l4 (s : State) (hts : s.ts = .loading) (hk : s.k = 3) : FrameStep .txcycle s s (loadLenTx s.len)
      (fun _ t => { t with k := 4 })
  | transmit (s : State) (hts : s.ts = .loading) (hk : s.k = 4) : FrameStep .txcycle s
      (({ s with ts := .transmitting } : State).emit .transmitting) transmitTx (fun _ t => t)
  | firstPoll (s : State) (hts : s.ts = .transmitting) : FrameStep .txcycle s
      { s with ts := .awaiting, pollcnt := 0x0000, nclear := 0 } pollTx pollResult
  | poll (s : State) (hts : s.ts = .awaiting) (hd : s.dly = false) (hf : txDoneFlag s.lastirq = false) :
      FrameStep .txcycle s s pollTx pollResult
  | clear (s : State) (hts : s.ts = .awaiting) (hd : s.dly = false) (hf : txDoneFlag s.lastirq = true) :
      FrameStep .txcycle s (({ s with ts := .done } : State).emit .done) clearTx (fun _ t => t)

/-- A micro-step that answers a next state is the poll wait, TXCYCLE's completion, or one frame. -/
theorem exec_next {i : Instr} {s t : State} (h : exec i s = .next t) :
    (i = .txcycle ∧ s.ts = .awaiting ∧ s.dly = true ∧ t = txW s) ∨
    (i = .txcycle ∧ s.ts = .done ∧ t = s.complete) ∨
    ∃ u tx f, FrameStep i s u tx f ∧ t = u.runFrame tx f := by
  cases i with
  | rdb => cases h; exact .inr (.inr ⟨_, _, _, .rdb s, rfl⟩)
  | rdw => cases h; exact .inr (.inr ⟨_, _, _, .rdw s, rfl⟩)
  | rdblk => cases h; exact .inr (.inr ⟨_, _, _, .rdblk s, rfl⟩)
  | wrb => cases h; exact .inr (.inr ⟨_, _, _, .wrb s, rfl⟩)
  | wrw => cases h; exact .inr (.inr ⟨_, _, _, .wrw s, rfl⟩)
  | wrblk => cases h; exact .inr (.inr ⟨_, _, _, .wrblk s, rfl⟩)
  | dump =>
    simp only [exec, execDump] at h
    split at h
    · cases h; exact .inr (.inr ⟨_, _, _, .dump s ‹_›, rfl⟩)
    · cases h
  | config =>
    simp only [exec, execConfig] at h
    split at h
    · cases h; exact .inr (.inr ⟨_, _, _, .configSleep s ‹_›, rfl⟩)
    · cases h; exact .inr (.inr ⟨_, _, _, .configFrf s ‹_›, rfl⟩)
    · cases h; exact .inr (.inr ⟨_, _, _, .configPa s ‹_›, rfl⟩)
    · cases h
  | txcycle =>
    simp only [exec, execTxcycle] at h
    split at h
    · cases h; exact .inr (.inr ⟨_, _, _, .l1 s ‹_›, rfl⟩)
    · split at h
      · cases h; exact .inr (.inr ⟨_, _, _, .l2 s ‹_› ‹_›, rfl⟩)
      · cases h; exact .inr (.inr ⟨_, _, _, .l3 s ‹_› ‹_›, rfl⟩)
      · cases h; exact .inr (.inr ⟨_, _, _, .l4 s ‹_› ‹_›, rfl⟩)
      · cases h; exact .inr (.inr ⟨_, _, _, .transmit s ‹_› ‹_›, rfl⟩)
      · cases h
    · rename_i hts
      cases h
      exact .inr (.inr ⟨_, _, _, .firstPoll s hts, by simp [txP, enterAwaiting, hts]⟩)
    · rename_i hts
      cases h
      unfold txAwaiting
      split
      · exact .inl ⟨rfl, hts, ‹_›, rfl⟩
      · rename_i hd
        have hd' : s.dly = false := by simpa using hd
        split
        · exact .inr (.inr ⟨_, _, _, .clear s hts hd' ‹_›, rfl⟩)
        · rename_i hf
          exact .inr (.inr ⟨_, _, _, .poll s hts hd' (by simpa using hf), by simp [txP, enterAwaiting, hts]⟩)
    · cases h; exact .inr (.inl ⟨rfl, ‹_›, rfl⟩)

/-- A successful poll sees the flag set, sees it clear at the bound, or sees it clear and waits (R147, R150). -/
theorem pollResult_cases (rx : List Byte) (s : State) :
    (txDoneFlag (rxByte rx 1) = true ∧
      pollResult rx s = { s with pollcnt := satInc s.pollcnt, lastirq := rxByte rx 1 }) ∨
    (txDoneFlag (rxByte rx 1) = false ∧ (∃ l, s.params.pollLimit = some l ∧ l ≤ s.nclear + 1) ∧
      pollResult rx s = (({ s with pollcnt := satInc s.pollcnt, lastirq := rxByte rx 1, nclear := s.nclear + 1 } :
        State).emit .pollTick).raise .timeout) ∨
    (txDoneFlag (rxByte rx 1) = false ∧ (∀ l, s.params.pollLimit = some l → s.nclear + 1 < l) ∧
      pollResult rx s = { ({ s with pollcnt := satInc s.pollcnt, lastirq := rxByte rx 1, nclear := s.nclear + 1 } :
        State).emit .pollTick with dly := true }) := by
  cases hf : txDoneFlag (rxByte rx 1) with
  | true => exact .inl ⟨rfl, by simp [pollResult, hf]⟩
  | false =>
    refine .inr ?_
    cases hl : s.params.pollLimit with
    | none => exact .inr ⟨rfl, by simp, by simp [pollResult, hf, State.limitReached, hl]⟩
    | some l =>
      by_cases hn : l ≤ s.nclear + 1
      · exact .inl ⟨rfl, ⟨l, rfl, hn⟩, by simp [pollResult, hf, State.limitReached, hl, hn]⟩
      · exact .inr ⟨rfl, by intro l' hl'; cases hl'; omega, by simp [pollResult, hf, State.limitReached, hl, hn]⟩

/-- A DUMP frame's result goes on to the next address or completes (R112). -/
theorem dumpResult_cases (rx : List Byte) (s : State) :
    (s.k = Config.dumpLast ∧ dumpResult rx s =
      ({ s with buf := bufStore s.buf s.k (rxByte rx 1), k := s.k + 1 } : State).complete) ∨
    (s.k ≠ Config.dumpLast ∧ dumpResult rx s = { s with buf := bufStore s.buf s.k (rxByte rx 1), k := s.k + 1 }) := by
  by_cases h : s.k = Config.dumpLast
  · exact .inl ⟨h, by simp [dumpResult, h]⟩
  · exact .inr ⟨h, by simp [dumpResult, h]⟩

end Sys2Proof.Machine
end

