-- ==== Sys2Proof/Laws/PerInstr.lean ====
section
/-! SUPPORT. Statements made command by command. OpcodeFields: the structure of the opcode (30_encoding.md R72). -/
namespace Sys2Proof.Laws.OpcodeFields

/-- A single-frame RegisterBus command has OP[3] = 0, its direction in OP[2] and its size in OP[1:0] (01 byte, 10
word, 11 block); DUMP, CONFIG and TXCYCLE have OP[3] = 1 (R72). -/
def Statement (i : Instr) : Prop :=
  opcodeOf i =
    match i with
    | .rdb => 0#1 ++ 0#1 ++ 1#2
    | .rdw => 0#1 ++ 0#1 ++ 2#2
    | .rdblk => 0#1 ++ 0#1 ++ 3#2
    | .wrb => 0#1 ++ 1#1 ++ 1#2
    | .wrw => 0#1 ++ 1#1 ++ 2#2
    | .wrblk => 0#1 ++ 1#1 ++ 3#2
    | .dump => 1#1 ++ 0#3
    | .config => 1#1 ++ 1#3
    | .txcycle => 1#1 ++ 2#3

theorem rdb : Statement .rdb := by rfl
theorem rdw : Statement .rdw := by rfl
theorem rdblk : Statement .rdblk := by rfl
theorem wrb : Statement .wrb := by rfl
theorem wrw : Statement .wrw := by rfl
theorem wrblk : Statement .wrblk := by rfl
theorem dump : Statement .dump := by rfl
theorem config : Statement .config := by rfl
theorem txcycle : Statement .txcycle := by rfl

end Sys2Proof.Laws.OpcodeFields
end

