-- ==== Sys2Proof/Tests/Slice0.lean ====
section
/-! SUPPORT. Tests whose expected results are the spec's own vectors (95_test_vectors.md), and for each obligation
with hypotheses a concrete case that meets them all. -/
open Sys2Proof Sys2Proof.Machine
namespace Sys2Proof.Tests

/-! ### Helpers -/

/-- A block whose reset sequence succeeded, idle. -/
def ready : State := { State.reset with rs := .ready, stBusy := false, stReady := true }

/-- A block whose opening failed. -/
def failed : State := { State.reset with rs := .failed, stBusy := false, stErr := true, errcode := .init }

/-- A command accepted by a ready block, and the answers the radio will give. -/
def running (i : Instr) (replies : List Reply) : State :=
  { ready with opLast := opcodeOf i, cur := some (opcodeOf i), stBusy := true, device := .unconstrained replies }

/-- TXCYCLE in AWAITING, the flags of the last poll, and the answers to come. -/
def awaiting (flags : Byte) (dly : Bool) (replies : List Reply) : State :=
  { running .txcycle replies with ts := .awaiting, k := 4, lastirq := flags, dly := dly }

/-- TXCYCLE in LOADING before its frame `k`. -/
def loading (k : Nat) (replies : List Reply) : State := { running .txcycle replies with ts := .loading, k := k }

/-- REFDEV in its start state. -/
def mock : RefDev := { regs := [], fifo := [], fp := 0x00, j := 0, irqScript := [] }

/-- What a step or a meaning leaves, if it answers a next state. -/
def after {α : Type} (r : Result) (f : State → α) : Option α :=
  match r with
  | .next t => some (f t)
  | .fault _ => none
  | .refused _ => none

/-! ### Well-formedness refuses what is ill formed (R81, R150) -/

theorem test_wellFormed_refuses_a_long_block : (AsmCmd.wrblk 0x00 (List.replicate 256 0x00)).wellFormed = false := by
  simp [AsmCmd.wellFormed, Config.maxPayload, -List.reduceReplicate]
theorem test_wellFormed_refuses_a_long_payload : (AsmCmd.txcycle (List.replicate 256 0x00)).wellFormed = false := by
  simp [AsmCmd.wellFormed, Config.maxPayload, -List.reduceReplicate]
theorem test_wellFormed_takes_the_longest_payload : (AsmCmd.txcycle (List.replicate 255 0x00)).wellFormed = true := by
  simp [AsmCmd.wellFormed, Config.maxPayload, -List.reduceReplicate]
theorem test_wellFormed_refuses_a_zero_poll_bound :
    ({ Params.default with pollLimit := some 0 } : Params).wellFormed = false := by decide
theorem test_wellFormed_takes_the_defaults : Params.default.wellFormed = true := by decide

/-! ### Decoding: command bytes written out from R71, R73 and V-CMD -/

theorem test_decode_rdb : decode [0b00000001] = .ok (.rdb, []) := by decide
theorem test_decode_rdw : decode [0b00000010] = .ok (.rdw, []) := by decide
theorem test_decode_rdblk : decode [0b00000011] = .ok (.rdblk, []) := by decide
theorem test_decode_wrb : decode [0b00000101] = .ok (.wrb, []) := by decide
theorem test_decode_wrw : decode [0b00000110] = .ok (.wrw, []) := by decide
theorem test_decode_wrblk : decode [0b00000111] = .ok (.wrblk, []) := by decide
theorem test_decode_dump : decode [0b00001000] = .ok (.dump, []) := by decide
theorem test_decode_config : decode [0b00001001] = .ok (.config, []) := by decide
theorem test_decode_txcycle : decode [0b10001010, 0b00000000] = .ok (.txcycle, [0x00]) := by decide
theorem test_decode_ignores_high_half : decode [0b11110001] = .ok (.rdb, []) := by decide
theorem test_decode_reserved : [0x00, 0x04, 0x0B, 0x0C, 0x0D, 0x0E, 0x0F].map decodeByte = List.replicate 7 none := by
  decide
theorem test_decode_nothing : decode [] = .error .noByte := by decide
theorem test_table_word : decodeTableWord 8 0x06 = some .wrw := by decide
theorem test_table_rows_disjoint :
    opcodeTable.Pairwise (fun r q => r.pattern &&& (r.mask &&& q.mask) ≠ q.pattern &&& (r.mask &&& q.mask)) := by
  decide

/-! ### One step of each command, with the values of V-RDB to V-TX and V-ERR -/

/-- V-RDB rows 2 and 4: a masked address, DATA_HI cleared. -/
theorem test_rdb : after (step { running .rdb [.ok [0x00, 0x5A]] with addr := 0x92, dataHi := 0x77 })
    (fun t => (t.dataLo, t.dataHi, t.statusByte, t.addr, t.history)) =
    some (0x5A, 0x00, 0x12, 0x92, [.frame [0x12, 0x00] [0x00, 0x5A]]) := by decide
/-- V-RDW row 1. -/
theorem test_rdw : after (step { running .rdw [.ok [0x00, 0xE4, 0xC0]] with addr := 0x06 })
    (fun t => (t.dataHi, t.dataLo, t.history)) = some (0xE4, 0xC0, [.frame [0x06, 0x00, 0x00] [0x00, 0xE4, 0xC0]]) := by
  decide
/-- V-ERR E5. -/
theorem test_rdw_failure :
    after (step { running .rdw [.fail] with addr := 0x06, dataHi := 0x11, dataLo := 0x22 })
    (fun t => (t.dataHi, t.dataLo, t.statusByte, t.readReg 0x006, t.history)) =
    some (0x11, 0x22, 0x16, 0x02, [.fail [0x06, 0x00, 0x00]]) := by decide
/-- V-RDBLK row 3. -/
theorem test_rdblk : after (step { running .rdblk [.ok [0x00, 0xE4, 0xC0, 0x00]] with addr := 0x86, len := 3 })
    (fun t => (t.bufBytes 3, t.history)) =
    some ([0xE4, 0xC0, 0x00], [.frame [0x06, 0x00, 0x00, 0x00] [0x00, 0xE4, 0xC0, 0x00]]) := by decide
/-- V-RDBLK row 1: the header alone. -/
theorem test_rdblk_empty : after (step { running .rdblk [.ok [0x07]] with addr := 0x06 })
    (fun t => (t.buf, t.history)) = some ([], [.frame [0x06] [0x07]]) := by decide
/-- V-WRB row 3: DATA_HI is not sent. -/
theorem test_wrb : after (step { running .wrb [.ok [0x00, 0x00]] with addr := 0xFF, dataHi := 0x55 })
    (fun t => (t.statusByte, t.history)) = some (0x12, [.frame [0xFF, 0x00] [0x00, 0x00]]) := by decide
/-- V-WRW row 6. -/
theorem test_wrw : after (step { running .wrw [.ok [0x00, 0x00, 0x00]] with addr := 0x7F, dataHi := 0xAB, dataLo := 0xCD })
    (fun t => t.history) = some [.frame [0xFF, 0xCD, 0xAB] [0x00, 0x00, 0x00]] := by decide
/-- V-WRBLK row 2. -/
theorem test_wrblk :
    after (step { running .wrblk [.ok [0, 0, 0, 0]] with addr := 0x86, len := 3, buf := [(0, 1), (1, 2), (2, 3)] })
    (fun t => t.history) = some [.frame [0x86, 0x01, 0x02, 0x03] [0, 0, 0, 0]] := by decide
/-- V-DUMP, the frame of address 0x10. -/
theorem test_dump : after (step { running .dump [.ok [0x33, 0x99]] with k := 0x10 })
    (fun t => (t.buf, t.k, t.stBusy, t.history)) =
    some ([(0x10, 0x99)], 0x11, true, [.frame [0x10, 0x00] [0x33, 0x99]]) := by decide
/-- V-DUMP, the last frame. -/
theorem test_dump_last : after (step { running .dump [.ok [0x33, 0x99]] with k := 0x42 })
    (fun t => (t.buf, t.k, t.statusByte)) = some ([(0x42, 0x99)], 0, 0x12) := by decide
/-- V-CONFIG row 2, the frequency frame of another build. -/
theorem test_config : after (step { running .config [.ok [0, 0, 0, 0]] with
      k := 1, params := { Params.default with frfCode := 0x123456 } })
    (fun t => (t.k, t.history)) = some (2, [.frame [0x86, 0x12, 0x34, 0x56] [0, 0, 0, 0]]) := by decide
/-- V-CONFIG row 1, the last frame. -/
theorem test_config_last : after (step { running .config [.ok [0, 0]] with k := 2 })
    (fun t => (t.statusByte, t.history)) = some (0x12, [.frame [0x89, 0x80] [0, 0]]) := by decide
/-- V-TX T3, its first poll: bit 3 is clear. -/
theorem test_txcycle_poll : after (step { running .txcycle [.ok [0x00, 0x40]] with ts := .transmitting, k := 4 })
    (fun t => (t.pollcnt, t.lastirq, t.dly, t.readReg 0x007, t.history)) =
    some (1, 0x40, true, 0x03, [.frame [0x12, 0x00] [0x00, 0x40], .evt .pollTick]) := by decide
/-- V-ERR E4: the payload frame fails. -/
theorem test_txcycle_failure : after (step { loading 2 [.fail] with len := 1, buf := [(0, 0x41)], pollcnt := 9 })
    (fun t => (t.readReg 0x007, t.statusByte, t.pollcnt, t.history)) =
    some (0x00, 0x16, 9, [.fail [0x80, 0x41]]) := by decide
/-- V-RST: the start of the sequence. -/
theorem test_reset_pulse : after (step { State.reset with inits := [true] })
    (fun t => (t.statusByte, t.rstDev, t.history)) = some (0x01, false, [.rst false]) := by decide
/-- V-HOST row H3. -/
theorem test_overrun : after (step { running .txcycle [] with addr := 0x06, turns := [.write 0x001 0x55] })
    (fun t => (t.addr, t.statusByte)) = some (0x06, 0x19) := by decide
/-- P1's `wait` at a block that has become ready reads 0x10 and ends. -/
theorem test_wait_ends : after (step { ready with turns := [.wait []] }) (fun t => (t.hRdata, t.turns)) =
    some (0x10, []) := by decide
/-- A byte received in the other bit order, R59. -/
theorem test_miso_bit_order : frameBits .lsbFirst [0x80] [0x01] =
    [(false, true), (false, false), (false, false), (false, false), (false, false), (false, false), (false, false),
      (true, false)] := by decide
/-- R147, R30: a first poll that fails leaves the POLLCNT of entering AWAITING. -/
theorem test_first_poll_failure : after (step { running .txcycle [.fail] with ts := .transmitting, k := 4, pollcnt := 9 })
    (fun t => (t.pollcnt, t.readReg 0x006, t.history)) = some (0, 0x02, [.fail [0x12, 0x00]]) := by decide

/-! ### The invariant holds somewhere -/

theorem ready_inv : ready.Inv where
  buf_wf := by decide
  device_wf := by decide
  busy_iff := by decide
  ready_iff := by decide
  running := by intro op h; cases h
  busy_clear := by decide
  err_code := by decide
  timeout_bound := by decide
  ts_idle := by decide
  k_idle := by decide
  k_dump := by decide
  k_config := by decide
  k_loading := by decide
  dly_awaiting := by decide
  lines := by decide
  rst_line := by decide
  low_held := by decide
  held := by intro h; cases h

theorem failed_inv : failed.Inv where
  buf_wf := by decide
  device_wf := by decide
  busy_iff := by decide
  ready_iff := by decide
  running := by intro op h; cases h
  busy_clear := by decide
  err_code := by decide
  timeout_bound := by decide
  ts_idle := by decide
  k_idle := by decide
  k_dump := by decide
  k_config := by decide
  k_loading := by decide
  dly_awaiting := by decide
  lines := by decide
  rst_line := by decide
  low_held := by decide
  held := by intro h; cases h

/-- A ready block that runs RDB, beside a host write of STATUS. -/
def rdbAndClear : State := { running .rdb [.ok [0x00, 0x01]] with turns := [.blockAndWrite 0x005 0xFF] }

theorem rdbAndClear_inv : rdbAndClear.Inv where
  buf_wf := by decide
  device_wf := by decide
  busy_iff := by decide
  ready_iff := by decide
  running := by intro op h; cases h; decide
  busy_clear := by decide
  err_code := by decide
  timeout_bound := by decide
  ts_idle := by decide
  k_idle := by decide
  k_dump := by decide
  k_config := by decide
  k_loading := by decide
  dly_awaiting := by decide
  lines := by decide
  rst_line := by decide
  low_held := by decide
  held := by intro h; cases h

/-- The same beside a frame that fails. -/
def rdbFailsAndClear : State := { rdbAndClear with device := .unconstrained [.fail] }

theorem rdbFailsAndClear_inv : rdbFailsAndClear.Inv := { rdbAndClear_inv with }

/-- A block whose opening fails beside a host write of STATUS. -/
def openingAndClear : State := { State.reset with inits := [false], turns := [.blockAndWrite 0x005 0xFF] }

theorem openingAndClear_inv : openingAndClear.Inv where
  buf_wf := by decide
  device_wf := by decide
  busy_iff := by decide
  ready_iff := by decide
  running := by intro op h; cases h
  busy_clear := by decide
  err_code := by decide
  timeout_bound := by decide
  ts_idle := by decide
  k_idle := by decide
  k_dump := by decide
  k_config := by decide
  k_loading := by decide
  dly_awaiting := by decide
  lines := by decide
  rst_line := by decide
  low_held := by decide
  held := by intro h; cases h

/-! ### Witnesses: the hypotheses of each obligation are met together -/

theorem witness_CommandBitsSevenToFourAreIgnored : ready.rstN = true ∧ ready.stBusy = false := by decide

/-- The least frame, and the poll of R147 with an answer; the data lines at other levels after each. -/
theorem witness_WireDecoderRecoversEveryFrame :
    ∀ f ∈ ([(([0x12], [0xFF]), (false, true)), (([0x12, 0x00], [0x00, 0x08]), (true, true))] :
        List ((List Byte × List Byte) × (Bool × Bool))),
      f.1.1 ≠ [] ∧ f.1.2.length = f.1.1.length := by
  simp

theorem witness_StepRunsTheRunningCommand :
    let s := { running .txcycle [] with turns := [.block] }
    (s.rstN = true ∧ s.rs = .ready ∧ s.cur = some 0xA ∧ decodeOp 0xA = some .txcycle ∧
      s.turns.headD .block = .block) ∧
    (rdbAndClear.rstN = true ∧ rdbAndClear.rs = .ready ∧ rdbAndClear.cur = some 0x1 ∧ decodeOp 0x1 = some .rdb ∧
      rdbAndClear.turns.head? = some (.blockAndWrite 0x005 0xFF) ∧ rdbAndClear.stBusy = true) ∧
    (({ ready with turns := [.write 0x00B 0xFF] } : State).turns = .write 0x00B 0xFF :: [] ∧
      ({ ready with turns := [.blockAndWrite 0x1FF 0x01] } : State).turns = .blockAndWrite 0x1FF 0x01 :: [] ∧
      ready.stBusy = false) ∧
    decodeTableWord 8 0xFA = some .txcycle := by decide

theorem witness_IdleBlockWaits :
    (ready.rs = .ready ∧ ready.cur = none ∧ ready.turns.headD .block = .block) ∧
    (failed.rs = .failed ∧ failed.cur = none ∧ failed.turns.headD .block = .block) := by decide

/-- A block held in reset, and a block before each of S0 to S3, the last four beside a host that polls STATUS later. -/
theorem witness_ResetSequenceRunsS0ToS3 :
    let held : State := { State.reset with rstN := false }
    let s0 : State := { State.reset with inits := [true], turns := [.block, .read 0x005] }
    let s1 : State := { s0 with rs := .low, rstDev := false }
    let s2 : State := { s1 with lowHeld := true }
    let s3 : State := { s0 with rs := .high }
    let silent : State := { State.reset with inits := [true, false] }
    (held.rstN = false ∧ held.turns.headD .block = .block) ∧
    (s0.rstN = true ∧ s0.turns.headD .block = .block ∧ s0.rs = .opening ∧
      s0.inits.headD (Config.initOk (s0.tick + 1)) = true) ∧
    (s1.rstN = true ∧ s1.turns.headD .block = .block ∧ s1.rs = .low ∧ s1.lowHeld = false) ∧
    (s2.rstN = true ∧ s2.turns.headD .block = .block ∧ s2.rs = .low ∧ s2.lowHeld = true) ∧
    (s3.rstN = true ∧ s3.turns.headD .block = .block ∧ s3.rs = .high) ∧
    (silent.rstN = true ∧ silent.rs = .opening ∧ silent.lowHeld = false ∧ silent.turns = [] ∧
      silent.inits.headD (Config.initOk (silent.tick + 1)) = true) :=
  ⟨⟨rfl, rfl⟩, ⟨rfl, rfl, rfl, rfl⟩, ⟨rfl, rfl, rfl, rfl⟩, ⟨rfl, rfl, rfl, rfl⟩, ⟨rfl, rfl, rfl⟩, rfl, rfl, rfl, rfl, rfl⟩

theorem witness_FailedOpeningLeavesInitError :
    let s : State := { State.reset with inits := [false] }
    (s.rstN = true ∧ s.rs = .opening ∧ s.turns.headD .block = .block ∧
      s.inits.headD (Config.initOk (s.tick + 1)) = false) ∧
    failed.rs = .failed ∧ (∃ t, step failed = .next t) ∧
    ∃ t, step { failed with turns := [.rstN false] } = .next t := by
  refine ⟨⟨rfl, rfl, rfl, rfl⟩, rfl, ⟨_, rfl⟩, _, rfl⟩

theorem witness_BlockResetAtAnyBoundary :
    ({ awaiting 0x00 true [] with turns := [.rstN false] } : State).turns = [.rstN false] ∧
    ∀ turn ∈ ([.write 0x1FF 0xAA, .write 0x005 0xFF, .read 0x004, .wait [0], .rstN true] : List Turn),
      ∃ s t : State, s.stBusy = true ∧ s.turns = [turn] ∧ step s = .next t := by
  refine ⟨rfl, fun turn h => ⟨{ awaiting 0x00 true [] with turns := [turn] }, ?_⟩⟩
  simp only [List.mem_cons, List.not_mem_nil, or_false] at h
  rcases h with rfl | rfl | rfl | rfl | rfl <;> exact ⟨_, rfl, rfl, rfl⟩

theorem witness_CommandWriteIsAcceptedExactlyWhenIdle :
    let s : State := { ready with turns := [.write 0x000 0xFA] }
    let b : State := { running .txcycle [] with turns := [.write 0x000 0x01] }
    (s.rstN = true ∧ s.turns = .write 0x000 0xFA :: [] ∧ s.stBusy = false ∧ s.rs ≠ .failed ∧
      decodeOp ((0xFA : Byte).extractLsb' 0 4) ≠ none) ∧
    (b.rstN = true ∧ b.turns = .write 0x000 0x01 :: [] ∧ b.stBusy = true) := by decide

theorem witness_ReservedOpcodeEndsInIllegalOp :
    ∀ w ∈ ([0x00, 0x04, 0xFF] : List Byte), ({ ready with turns := [.write 0x000 w] } : State).rstN = true ∧
      ready.stBusy = false ∧ ready.rs ≠ .failed ∧
      w.extractLsb' 0 4 ∈ ([0x0, 0x4, 0xB, 0xC, 0xD, 0xE, 0xF] : List Opcode) := by decide

theorem witness_FailedBlockAnswersInit :
    let s : State := { failed with turns := [.write 0x000 0x00] }
    failed.Inv ∧ failed.rs = .failed ∧
    (s.rstN = true ∧ s.turns = .write 0x000 0x00 :: [] ∧ s.stBusy = false ∧ s.rs = .failed) := by
  refine ⟨failed_inv, rfl, rfl, rfl, rfl, rfl⟩

theorem witness_BusyWritesAreIgnoredAndSetOvr :
    (running .dump []).rstN = true ∧ (running .dump []).stBusy = true ∧
    (∀ a ∈ ([0x000, 0x004, 0x100, 0x1FF] : List HostAddr), a.toNat ≤ 0x004 ∨ 0x100 ≤ a.toNat) ∧
    (∀ a ∈ ([0x006, 0x00A] : List HostAddr), 0x006 ≤ a.toNat ∧ a.toNat ≤ 0x00A) := by decide

/-- A completion, an abort and a failed opening, each beside a STATUS write of all ones. -/
theorem witness_StatusReadsItsBitsAndTheSetWins :
    (rdbAndClear.Inv ∧ rdbAndClear.cur ≠ none ∧ rdbAndClear.turns = .blockAndWrite 0x005 0xFF :: [] ∧
      ∃ t, step rdbAndClear = .next t ∧ t.stBusy = false) ∧
    (rdbFailsAndClear.Inv ∧ rdbFailsAndClear.cur ≠ none ∧ rdbFailsAndClear.turns = .blockAndWrite 0x005 0xFF :: [] ∧
      ∃ t, step rdbFailsAndClear = .next t ∧ t.errcode ≠ .noError) ∧
    (openingAndClear.Inv ∧ openingAndClear.rs = .opening ∧ openingAndClear.turns = .blockAndWrite 0x005 0xFF :: [] ∧
      ∃ t, step openingAndClear = .next t ∧ t.rs = .failed) :=
  ⟨⟨rdbAndClear_inv, by decide, rfl, _, rfl, rfl⟩, ⟨rdbFailsAndClear_inv, by decide, rfl, _, rfl, by decide⟩,
    openingAndClear_inv, rfl, rfl, _, rfl, rfl⟩

theorem witness_HostReadsHaveNoSideEffects :
    (∀ a ∈ ([0x003, 0x004, 0x100, 0x1FF] : List HostAddr),
      ({ running .dump [] with turns := [.read a] } : State).turns = .read a :: [] ∧
      (running .dump []).stBusy = true ∧ (a = 0x003 ∨ a = 0x004 ∨ 0x100 ≤ a.toNat)) ∧
    (({ ready with turns := [.read 0x1FF] } : State).turns = .read 0x1FF :: [] ∧ ready.stBusy = false) ∧
    (∀ a ∈ ([0x000, 0x002, 0x005, 0x0FF] : List HostAddr), a ≠ 0x003 ∧ a ≠ 0x004 ∧ a.toNat < 0x100) := by decide

theorem witness_WaitReadsStatusUntilTheBlockIsIdle :
    let b : State := { running .dump [] with turns := [.wait [0, 3]] }
    let s : State := { ready with turns := [.wait []] }
    (b.turns = .wait [0, 3] :: [] ∧ b.stBusy = true) ∧ (s.turns = .wait [] :: [] ∧ s.stBusy = false) :=
  ⟨⟨rfl, rfl⟩, rfl, rfl⟩

theorem witness_HostRegisterMapReadsTheState : ready.stBusy = false := by decide

theorem witness_ReservedHostAddressesAreInert :
    ∀ a ∈ ([0x00B, 0x0FF] : List HostAddr), 0x00B ≤ a.toNat ∧ a.toNat ≤ 0x0FF := by decide

theorem witness_IdleHostWritesStoreTheByte : ready.rstN = true ∧ ready.stBusy = false := by decide

theorem witness_OnlyWriteOneOrResetClearsOvr :
    let s : State := { ready with stOvr := true, turns := [.write 0x005 0x08] }
    let r : State := { ready with stOvr := true, turns := [.rstN false] }
    s.stOvr = true ∧ r.stOvr = true ∧
    (∃ t, step s = .next t ∧ t.stOvr = false) ∧ ∃ t, step r = .next t ∧ t.stOvr = false :=
  ⟨rfl, rfl, ⟨_, rfl, rfl⟩, _, rfl, rfl⟩

theorem witness_RdbReadsTheSecondByte :
    (∃ rx, (running .rdb [.ok [0x00, 0x5A]]).answer [0x00, 0x00] = some rx) ∧
    (running .rdb [.fail]).answer [0x00, 0x00] = none := ⟨⟨_, rfl⟩, rfl⟩

theorem witness_RdwAssemblesHighByteFirst :
    (∃ rx, (running .rdw [.ok [0x00, 0xE4, 0xC0]]).answer [0x00, 0x00, 0x00] = some rx) ∧
    (running .rdw [.fail]).answer [0x00, 0x00, 0x00] = none := ⟨⟨_, rfl⟩, rfl⟩

/-- At both ends of LEN. -/
theorem witness_RdblkWritesExactlyNBytes : ∀ n ∈ ([0x00, 0xFF] : List Byte),
    let s : State := { running .rdblk [.ok []] with addr := 0x7F, len := n }
    let u : State := { running .rdblk [.fail] with addr := 0x7F, len := n }
    (∃ rx, s.answer ((s.addr &&& 0x7F) :: List.replicate s.len.toNat 0x00) = some rx) ∧
    u.answer ((u.addr &&& 0x7F) :: List.replicate u.len.toNat 0x00) = none :=
  fun _ _ => ⟨⟨_, rfl⟩, rfl⟩

theorem witness_WrbSendsTheByte :
    (∃ rx, (running .wrb [.ok []]).answer [0x80, 0x00] = some rx) ∧ (running .wrb [.fail]).answer [0x80, 0x00] = none :=
  ⟨⟨_, rfl⟩, rfl⟩

theorem witness_WrwSendsLowByteFirst :
    (∃ rx, (running .wrw [.ok []]).answer [0x80, 0x00, 0x00] = some rx) ∧
    (running .wrw [.fail]).answer [0x80, 0x00, 0x00] = none := ⟨⟨_, rfl⟩, rfl⟩

/-- At an empty block; the frame is the header alone. -/
theorem witness_WrblkSendsTheBufferInOrder :
    (∃ rx, (running .wrblk [.ok []]).answer [0x80] = some rx) ∧ (running .wrblk [.fail]).answer [0x80] = none :=
  ⟨⟨_, rfl⟩, rfl⟩

/-- At the first and the last address. -/
theorem witness_DumpReadsOneAddressAMicroStep : ∀ k ∈ ([0, 0x42] : List Nat),
    let s : State := { running .dump [.ok []] with k := k }
    let u : State := { running .dump [.fail] with k := k }
    s.k ≤ 0x42 ∧ (∃ rx, s.answer [BitVec.ofNat 8 s.k, 0x00] = some rx) ∧
    u.k ≤ 0x42 ∧ u.answer [BitVec.ofNat 8 u.k, 0x00] = none := by
  simp only [List.mem_cons, List.not_mem_nil, or_false]
  rintro k (rfl | rfl) <;> exact ⟨by decide, ⟨_, rfl⟩, by decide, rfl⟩

/-- The values a mock gives that answers each address with itself (R113). -/
def addressValues : List (Byte × Byte) := (List.range 0x43).map (fun a => (0x00, BitVec.ofNat 8 a))

/-- DUMP on that mock. -/
def dumpRun : State := running .dump (addressValues.map (fun p => Reply.ok [p.1, p.2]) ++ [])

theorem witness_DumpFillsTheBufferInFortyThreeHexFrames :
    dumpRun.rstN = true ∧ dumpRun.rs = .ready ∧ dumpRun.stBusy = true ∧ dumpRun.cur = some 0x8 ∧ dumpRun.k = 0 ∧
    dumpRun.ts = .idle ∧ dumpRun.turns = [] ∧ addressValues.length = 0x43 ∧
    dumpRun.device = .unconstrained (addressValues.map (fun p => Reply.ok [p.1, p.2]) ++ []) :=
  ⟨rfl, rfl, rfl, rfl, rfl, rfl, rfl, by simp [addressValues], by rw [dumpRun, running]⟩

theorem witness_ConfigSendsItsThreeFrames :
    ((running .config [.ok []]).k = 0 ∧ (∃ rx, (running .config [.ok []]).answer [0x81, 0x80] = some rx) ∧
      (running .config [.fail]).answer [0x81, 0x80] = none) ∧
    (∃ rx, ({ running .config [.ok []] with k := 1 } : State).answer [0x86, 0xE4, 0xC0, 0x00] = some rx) ∧
    ({ running .config [.fail] with k := 1 } : State).answer [0x86, 0xE4, 0xC0, 0x00] = none ∧
    (∃ rx, ({ running .config [.ok []] with k := 2 } : State).answer [0x89, 0x80] = some rx) ∧
    ({ running .config [.fail] with k := 2 } : State).answer [0x89, 0x80] = none :=
  ⟨⟨rfl, ⟨_, rfl⟩, rfl⟩, ⟨_, rfl⟩, rfl, ⟨_, rfl⟩, rfl⟩

/-- CONFIG with a host that reads STATUS and writes an operand meanwhile. -/
def configRun : State :=
  { running .config [.ok [0x00, 0x00], .ok [0x00, 0x00, 0x00, 0x00]] with
    turns := [.read 0x005, .block, .write 0x001 0x55, .block] }

theorem witness_ConfigSleepsBeforeTheFrequencyWrite :
    let before : List HistEntry := [.frame [0x81, 0x80] [0x00, 0x00]]
    let e : HistEntry := .frame [0x86, 0xE4, 0xC0, 0x00] [0x00, 0x00, 0x00, 0x00]
    configRun.rstN = true ∧ configRun.rs = .ready ∧ configRun.stBusy = true ∧ configRun.cur = some 0x9 ∧
    configRun.k = 0 ∧ (∀ m < 4, ∃ u, stepN m configRun = .next u ∧ u.stBusy = true) ∧
    (∃ t, stepN 4 configRun = .next t ∧ t.history = configRun.history ++ (before ++ e :: [])) ∧ e.isFrame = true ∧
    ∃ b2 b1 b0 rx, e = .frame [0x86, b2, b1, b0] rx := by
  refine ⟨rfl, rfl, rfl, rfl, rfl, fun m hm => ?_, ⟨_, rfl, rfl⟩, rfl, _, _, _, _, rfl⟩
  interval_cases m <;> exact ⟨_, rfl, rfl⟩

theorem witness_LoadingSendsBasePointerPayloadLength :
    (running .txcycle []).ts = .idle ∧ (∃ rx, (running .txcycle [.ok []]).answer [0x8E, 0x00] = some rx) ∧
    (∃ rx, (loading 1 [.ok []]).answer [0x8D, 0x00] = some rx) ∧
    (∃ rx, ({ loading 2 [.ok []] with len := 0xFF } : State).answer
      (0x80 :: (List.range 255).map ({ loading 2 [.ok []] with len := 0xFF } : State).bufByte) = some rx) ∧
    (loading 3 []).ts = .loading ∧ (loading 3 []).k = 3 ∧
    ∃ rx, (loading 3 [.ok []]).answer [0xA2, (loading 3 []).len] = some rx :=
  ⟨rfl, ⟨_, rfl⟩, ⟨_, rfl⟩, ⟨_, rfl⟩, rfl, rfl, _, rfl⟩

theorem witness_TransmittingWritesTheTransmitMode :
    (loading 4 [.ok []]).ts = .loading ∧ (loading 4 [.ok []]).k = 4 ∧
    ∃ rx, (loading 4 [.ok []]).answer [0x81, 0x83] = some rx := ⟨rfl, rfl, _, rfl⟩

/-- The first poll with bit 3 set; a later poll with only the other bits set; the poll at the bound. -/
theorem witness_PollReadsTheIrqFlags :
    let first : State := { running .txcycle [.ok [0x00, 0x08]] with ts := .transmitting }
    let later := awaiting 0xF7 false [.ok [0x00, 0xF7]]
    let last : State := { later with nclear := 1, params := { Params.default with pollLimit := some 2 } }
    (first.answer [0x12, 0x00] = some [0x00, 0x08] ∧ first.ts = .transmitting ∧ (0x08 : Byte) &&& 0x08 ≠ 0x00) ∧
    (later.answer [0x12, 0x00] = some [0x00, 0xF7] ∧ later.ts = .awaiting ∧ later.dly = false ∧
      later.lastirq &&& 0x08 = 0x00 ∧ later.params.pollLimit = none) ∧
    (last.answer [0x12, 0x00] = some [0x00, 0xF7] ∧ last.ts = .awaiting ∧ last.dly = false ∧
      last.lastirq &&& 0x08 = 0x00 ∧ last.params.pollLimit = some 2 ∧ 2 ≤ last.nclear + 1) := by decide

theorem witness_PollWaitFollowsEveryClearPoll :
    ((awaiting 0x00 true []).ts = .awaiting ∧ (awaiting 0x00 true []).dly = true) ∧
    ((awaiting 0x00 false [.ok [0x00, 0x00]]).dly = false ∧
      ∃ t, exec .txcycle (awaiting 0x00 false [.ok [0x00, 0x00]]) = .next t ∧ t.dly = true) ∧
    ∃ t, exec .txcycle (awaiting 0x00 true []) = .next t ∧
      t.history = (awaiting 0x00 true []).history ++ [.delay 10] :=
  ⟨⟨rfl, rfl⟩, ⟨rfl, _, rfl, rfl⟩, _, rfl, rfl⟩

theorem witness_DoneClearsTheFlagAndCompletes :
    let s := awaiting 0x48 false [.ok []]
    (s.ts = .awaiting ∧ s.dly = false ∧ s.lastirq &&& 0x08 ≠ 0x00 ∧ ∃ rx, s.answer [0x92, 0x08] = some rx) ∧
    ({ running .txcycle [] with ts := .done } : State).ts = .done :=
  ⟨⟨rfl, rfl, by decide, _, rfl⟩, rfl⟩

theorem witness_TxcycleAbortsAtTheFailedFrame :
    ((running .txcycle [.fail]).ts = .idle ∧ (running .txcycle [.fail]).answer [0x8E, 0x00] = none) ∧
    ((loading 1 [.fail]).k = 1 ∧ (loading 1 [.fail]).answer [0x8D, 0x00] = none) ∧
    ((loading 2 [.fail]).k = 2 ∧ (loading 2 [.fail]).answer
      (0x80 :: (List.range (loading 2 [.fail]).len.toNat).map (loading 2 [.fail]).bufByte) = none) ∧
    ((loading 3 [.fail]).k = 3 ∧ (loading 3 [.fail]).answer [0xA2, (loading 3 [.fail]).len] = none) ∧
    ((loading 4 [.fail]).k = 4 ∧ (loading 4 [.fail]).answer [0x81, 0x83] = none) ∧
    (({ running .txcycle [.fail] with ts := .transmitting } : State).answer [0x12, 0x00] = none) ∧
    ((awaiting 0xF7 false [.fail]).lastirq &&& 0x08 = 0x00 ∧ (awaiting 0xF7 false [.fail]).answer [0x12, 0x00] = none) ∧
    ((awaiting 0x08 false [.fail]).lastirq &&& 0x08 ≠ 0x00 ∧ (awaiting 0x08 false [.fail]).answer [0x92, 0x08] = none) := by
  decide

theorem witness_NoPollBoundNoTimeout :
    let s := awaiting 0x00 false [.ok [0x00, 0x00]]
    s.params.pollLimit = none ∧ s.errcode ≠ .timeout ∧ ∃ t, step s = .next t := ⟨rfl, by decide, _, rfl⟩

/-- Three polls that observe the flag clear (R152), one of them with every other bit set. -/
def clearPolls : List (Byte × Byte) := [(0x00, 0x00), (0x00, 0x00), (0xFF, 0xF7)]

/-- What the radio answers to a whole cycle with those polls. -/
def cycleReplies : List Reply :=
  [Reply.ok [], .ok [], .ok [], .ok [], .ok []] ++ clearPolls.map (fun p => Reply.ok [p.1, p.2]) ++
    Reply.ok [0x00, 0x08] :: .ok [] :: []

/-- The longest payload, one poll below the bound. -/
def cycleRun : State :=
  { running .txcycle cycleReplies with len := 0xFF, params := { Params.default with pollLimit := some 4 } }

theorem witness_TxcycleSendsItsFramesInOrder :
    cycleRun.rstN = true ∧ cycleRun.rs = .ready ∧ cycleRun.stBusy = true ∧ cycleRun.cur = some 0xA ∧
    cycleRun.k = 0 ∧ cycleRun.ts = .idle ∧ cycleRun.dly = false ∧ cycleRun.turns = [] ∧
    (∀ l, cycleRun.params.pollLimit = some l → clearPolls.length < l) ∧
    (∀ p ∈ clearPolls, p.2 &&& 0x08 = 0x00) ∧ (0x08 : Byte) &&& 0x08 ≠ 0x00 ∧
    cycleRun.device = .unconstrained ([Reply.ok [], .ok [], .ok [], .ok [], .ok []] ++
      clearPolls.map (fun p => Reply.ok [p.1, p.2]) ++ Reply.ok [0x00, 0x08] :: .ok [] :: []) := by
  refine ⟨rfl, rfl, rfl, rfl, rfl, rfl, rfl, rfl, fun l h => ?_, by simp [clearPolls], by decide, ?_⟩
  · cases h; decide
  · rw [cycleRun, running, cycleReplies]

/-- TXCYCLE without a bound, on a radio whose next answers are clear. -/
def pollRun : State := awaiting 0x00 false (clearPolls.map (fun p => Reply.ok [p.1, p.2]) ++ [Reply.ok [0x00, 0x08]])

theorem witness_UnboundedPollingNeverCompletes :
    pollRun.rstN = true ∧ pollRun.rs = .ready ∧ pollRun.stBusy = true ∧ pollRun.cur = some 0xA ∧ pollRun.turns = [] ∧
    pollRun.params.pollLimit = none ∧ pollRun.ts = .awaiting ∧ pollRun.dly = false ∧
    pollRun.lastirq &&& 0x08 = 0x00 ∧ (∀ p ∈ clearPolls, p.2 &&& 0x08 = 0x00) ∧
    pollRun.device = .unconstrained (clearPolls.map (fun p => Reply.ok [p.1, p.2]) ++ [Reply.ok [0x00, 0x08]]) :=
  ⟨rfl, rfl, rfl, rfl, rfl, rfl, rfl, rfl, by decide, by simp [clearPolls], by rw [pollRun, awaiting, running]⟩

theorem witness_NoCommandWritesItsOperands : ∃ t, exec .txcycle (running .txcycle [.ok []]) = .next t := ⟨_, rfl⟩

theorem witness_RegisterBusCommandsLeaveTheRest :
    ∀ i ∈ ([.rdb, .rdw, .rdblk, .wrb, .wrw, .wrblk, .dump] : List Instr),
      (running i [.ok []]).ts = .idle ∧ ∃ t, exec i (running i [.ok []]) = .next t := by
  simp only [List.mem_cons, List.not_mem_nil, or_false]
  rintro i (rfl | rfl | rfl | rfl | rfl | rfl | rfl) <;> exact ⟨rfl, _, rfl⟩

theorem witness_OnlyReadCommandsWriteTheirBufferBytes :
    (∃ t, exec .rdblk { running .rdblk [.ok []] with len := 0xFF } = .next t) ∧
    ∃ t, exec .dump { running .dump [.ok []] with k := 0x42 } = .next t := ⟨⟨_, rfl⟩, _, rfl⟩

theorem witness_FailedFrameWritesNoResult :
    (∃ t, exec .rdw (running .rdw [.fail]) = .next t ∧
      t.history = (running .rdw [.fail]).history ++ [] ++ [HistEntry.fail [0x00, 0x00, 0x00]]) ∧
    ∃ t, exec .txcycle (running .txcycle [.fail]) = .next t ∧
      t.history = (running .txcycle [.fail]).history ++ [HistEntry.evt .loading] ++ [HistEntry.fail [0x8E, 0x00]] :=
  ⟨⟨_, rfl, rfl⟩, _, rfl, rfl⟩

theorem witness_MicroStepEndsOrContinues :
    (running .rdb [.ok []]).stBusy = true ∧ (∃ t, exec .rdb (running .rdb [.ok []]) = .next t ∧ t.stBusy = false) ∧
    ∃ t, exec .config (running .config [.ok []]) = .next t ∧ t.stBusy = true :=
  ⟨rfl, ⟨_, rfl, rfl⟩, _, rfl, rfl⟩

theorem witness_AtMostOneFrameAMicroStep :
    (awaiting 0x00 false [.ok [0, 0]]).cs = (!(awaiting 0x00 false [.ok [0, 0]]).params.csActive) ∧
    ∃ t, exec .txcycle (awaiting 0x00 false [.ok [0, 0]]) = .next t := ⟨rfl, _, rfl⟩

theorem witness_OnlyTxcycleEmitsEvents :
    Instr.config ≠ .txcycle ∧ ∃ t, exec .config (running .config [.ok []]) = .next t := ⟨by decide, _, rfl⟩

theorem witness_EveryStepKeepsTheInvariant : rdbAndClear.Inv ∧ ∃ t, step rdbAndClear = .next t :=
  ⟨rdbAndClear_inv, _, rfl⟩

theorem witness_EveryStepAnswersANextState : ready.Inv := ready_inv

theorem witness_NoFrameBeforeTheBlockIsReady :
    rdbAndClear.Inv ∧ ∃ t rx, step rdbAndClear = .next t ∧
      t.history = rdbAndClear.history ++ [.frame [0x00, 0x00] rx] ∧
      HistEntry.isFrame (.frame [0x00, 0x00] rx) = true :=
  ⟨rdbAndClear_inv, _, _, rfl, rfl, rfl⟩

/-- The longest payload. -/
theorem witness_ExpansionSetsUpAndStartsTheCommand :
    let c : AsmCmd := .txcycle (List.replicate 255 0x41)
    let s : State := { ready with turns := expand c [0] }
    c.wellFormed = true ∧ s.rstN = true ∧ s.rs = .ready ∧ s.stBusy = false ∧ s.turns = expand c [0] :=
  ⟨by simp [AsmCmd.wellFormed, Config.maxPayload, -List.reduceReplicate], rfl, rfl, rfl, rfl⟩

/-- The host reads STATUS at once, two steps later, and goes on. -/
theorem witness_ExpandedCommandHasCompletedAfterTheWait :
    let c : AsmCmd := .wrb 0x06 0x34
    let s : State := { ready with device := .unconstrained [.ok [0x00, 0x00]], turns := expand c [0, 2] }
    c.wellFormed = true ∧ s.rstN = true ∧ s.rs = .ready ∧ s.stBusy = false ∧ s.turns = expand c [0, 2] ∧
    ∃ t, stepN 8 s = .next t ∧ t.turns = [] :=
  ⟨rfl, rfl, rfl, rfl, rfl, _, rfl, rfl⟩

/-- At the last address. -/
theorem witness_ByteWrittenComesBackOnTheReferenceDevice :
    let s : State := { running .wrb [] with addr := 0x7F, device := .reference mock }
    s.device = .reference mock ∧ mock.wf = true ∧ s.addr.extractLsb' 0 7 ≠ 0x00 ∧ s.addr.extractLsb' 0 7 ≠ 0x12 ∧
    ∃ t u, exec .wrb s = .next t ∧ exec .rdb t = .next u :=
  ⟨rfl, by decide, by decide, by decide, _, _, rfl, rfl⟩

/-- At the last address whose next is no FIFO access. -/
theorem witness_WordComesBackSwappedOnTheReferenceDevice :
    let s : State := { running .wrw [] with addr := 0xFE, device := .reference mock }
    let a : DevAddr := 0x7E
    s.device = .reference mock ∧ mock.wf = true ∧ a = s.addr.extractLsb' 0 7 ∧ a ≠ 0x00 ∧ a ≠ 0x12 ∧
    a + 1 ≠ 0x00 ∧ a + 1 ≠ 0x12 ∧ ∃ t u, exec .wrw s = .next t ∧ exec .rdw t = .next u :=
  ⟨rfl, by decide, by decide, by decide, by decide, by decide, by decide, _, _, rfl, rfl⟩

theorem witness_DoneClearsOnlyBitThreeOnTheReferenceDevice :
    let r : RefDev := { mock with regs := [(0x12, 0xFF)] }
    let s : State := { awaiting 0x48 false [] with device := .reference r }
    s.device = .reference r ∧ r.wf = true ∧ s.ts = .awaiting ∧ s.dly = false ∧ s.lastirq &&& 0x08 ≠ 0x00 ∧
    ∃ t, exec .txcycle s = .next t :=
  ⟨rfl, by decide, rfl, rfl, by decide, _, rfl⟩

theorem witness_FifoAdvancesOneByteAWriteOnTheReferenceDevice :
    let s : State := { running .wrblk [] with addr := 0x80, len := 0xFF, device := .reference { mock with fp := 0x80 } }
    s.device = .reference { mock with fp := 0x80 } ∧ ({ mock with fp := 0x80 } : RefDev).wf = true ∧
    s.addr.extractLsb' 0 7 = 0x00 ∧ ∃ t, exec .wrblk s = .next t :=
  ⟨rfl, by decide, by decide, _, rfl⟩

end Sys2Proof.Tests
end

section
/-! SUPPORT. What one micro-step appends to the history (00_scope.md R9, 10_state.md R44). -/
namespace Sys2Proof.Machine

/-- `t` has the history of `s` with entries appended, at most `n` of them frames, and chip select inactive in `t` where
it was in `s` (10_state.md R44, 20_memory.md R64). -/
def State.Appends (n : Nat) (s t : State) : Prop :=
  ∃ new : List HistEntry, t.history = s.history ++ new ∧ (new.filter HistEntry.isFrame).length ≤ n ∧
    (s.cs = (!s.params.csActive) → t.cs = (!t.params.csActive))

/-- What two stretches append adds up. -/
theorem State.Appends.trans {m n : Nat} {s t u : State} (hst : s.Appends m t) (htu : t.Appends n u) :
    s.Appends (m + n) u := by
  obtain ⟨new, hnew, hlen, hcs⟩ := hst
  obtain ⟨new', hnew', hlen', hcs'⟩ := htu
  refine ⟨new ++ new', ?_, ?_, hcs' ∘ hcs⟩
  · rw [hnew', hnew, List.append_assoc]
  · rw [List.filter_append, List.length_append]
    exact Nat.add_le_add hlen hlen'

/-- A change of other fields appends nothing. -/
theorem State.appends_of_eq {n : Nat} {s t : State} (hh : t.history = s.history) (hc : t.cs = s.cs)
    (hp : t.params = s.params) : s.Appends n t :=
  ⟨[], by simp [hh], Nat.zero_le n, by rw [hc, hp]; exact id⟩

/-- A new entry that is no frame, on unchanged lines. -/
theorem State.appends_of_entry {n : Nat} {s t : State} {e : HistEntry} (he : e.isFrame = false)
    (hh : t.history = s.history ++ [e]) (hc : t.cs = s.cs) (hp : t.params = s.params) : s.Appends n t :=
  ⟨[e], hh, by simp [he], by rw [hc, hp]; exact id⟩

/-- One exchange appends one entry and ends with chip select inactive (20_memory.md R64). -/
theorem State.appends_exchange (s : State) (tx : List Byte) (e : HistEntry) : s.Appends 1 (s.exchange tx e) :=
  ⟨[e], rfl, List.length_filter_le _ _, fun _ => rfl⟩

/-- A frame appends itself, when what the command does with the bytes received sends no further frame. -/
theorem State.appends_runFrame (s : State) (tx : List Byte) {f : List Byte → State → State}
    (hf : ∀ rx t, State.Appends 0 t (f rx t)) : s.Appends 1 (s.runFrame tx f) := by
  obtain ⟨rx, -, -, hok⟩ | ⟨-, hfail⟩ := s.runFrame_cases tx f
  · rw [hok]
    exact (s.appends_exchange tx (.frame tx rx)).trans (hf rx _)
  · rw [hfail]
    exact (s.appends_exchange tx (.fail tx)).trans (n := 0) (State.appends_of_eq rfl rfl rfl)

/-- A poll's result appends at most its tick (41_transmit_controller.md R147). -/
theorem appends_pollResult (rx : List Byte) (s : State) : s.Appends 0 (pollResult rx s) := by
  obtain ⟨-, h⟩ | ⟨-, -, h⟩ | ⟨-, -, h⟩ := pollResult_cases rx s <;> rw [h]
  · exact State.appends_of_eq rfl rfl rfl
  · exact State.appends_of_entry (e := .evt .pollTick) rfl rfl rfl rfl
  · exact State.appends_of_entry (e := .evt .pollTick) rfl rfl rfl rfl

/-- A DUMP frame's result appends nothing. -/
theorem appends_dumpResult (rx : List Byte) (s : State) : s.Appends 0 (dumpResult rx s) := by
  obtain ⟨-, h⟩ | ⟨-, h⟩ := dumpResult_cases rx s <;> rw [h] <;> exact State.appends_of_eq rfl rfl rfl

/-- No frame goes out before the micro-step's own: only the event of the transmit state it enters. -/
theorem FrameStep.appends_before {i : Instr} {s u : State} {tx : List Byte} {f : List Byte → State → State}
    (h : FrameStep i s u tx f) : s.Appends 0 u := by
  cases h with
  | l1 => exact State.appends_of_entry (e := .evt .loading) rfl rfl rfl rfl
  | transmit => exact State.appends_of_entry (e := .evt .transmitting) rfl rfl rfl rfl
  | clear => exact State.appends_of_entry (e := .evt .done) rfl rfl rfl rfl
  | _ => exact State.appends_of_eq rfl rfl rfl

/-- No frame goes out after the micro-step's own. -/
theorem FrameStep.appends_after {i : Instr} {s u : State} {tx : List Byte} {f : List Byte → State → State}
    (h : FrameStep i s u tx f) (rx : List Byte) (t : State) : t.Appends 0 (f rx t) := by
  cases h with
  | dump => exact appends_dumpResult rx t
  | firstPoll => exact appends_pollResult rx t
  | poll => exact appends_pollResult rx t
  | _ => exact State.appends_of_eq rfl rfl rfl

/-- A micro-step of any command appends at most one frame. -/
theorem exec_appends {i : Instr} {s t : State} (h : exec i s = .next t) : s.Appends 1 t := by
  obtain ⟨-, -, -, rfl⟩ | ⟨-, -, rfl⟩ | ⟨u, tx, f, hstep, rfl⟩ := exec_next h
  · exact State.appends_of_entry (e := .delay Config.pollMs) rfl rfl rfl rfl
  · exact State.appends_of_eq rfl rfl rfl
  · exact hstep.appends_before.trans (u.appends_runFrame tx hstep.appends_after)

/-- Settles O46, by `exec_next`: a micro-step is the poll wait, a completion, or one frame with none beside it. -/
theorem atMostOneFrameAMicroStep : Obligations.AtMostOneFrameAMicroStep := by
  unfold Obligations.AtMostOneFrameAMicroStep
  exact fun i s t h => exec_appends h

end Sys2Proof.Machine
end

section
/-! SUPPORT. Host writes beside the block's turn, the opcode a fetch word carries, and what a step does by its turn. -/
namespace Sys2Proof

/-- Only the opcode field of a command byte decides what it decodes to (30_encoding.md R73). -/
theorem decodeOp_opField (b : Byte) : decodeOp (opField b) = decodeByte b := by
  revert b; decide

/-- A table word decodes as its command byte does. -/
theorem decodeTableWord_eq (nbits w : Nat) :
    decodeTableWord nbits w = decodeByte ((tableWordBytes nbits w).headD 0x00) := by
  simp only [decodeTableWord, tableWordBytes, decode, List.headD_cons]
  cases decodeByte (BitVec.ofNat 8 (w % 2 ^ nbits)) <;> rfl

end Sys2Proof

namespace Sys2Proof.Machine

/-- The fields that the beginning of a step changes, at given values. -/
def State.withTurn (turns : List Turn) (tick : Nat) (evtValid : Bool) (s : State) : State :=
  { s with turns := turns, tick := tick, evtValid := evtValid }

/-- A step begins by changing `turns`, `tick` and `evtValid` alone. -/
theorem State.begin_eq_withTurn (s : State) : s.begin = s.withTurn (s.turns.drop 1) (s.tick + 1) false := rfl

/-- Acceptance neither reads nor writes `turns`, `tick` and `evtValid`. -/
theorem State.accept_withTurn (op : Opcode) (ts : List Turn) (n : Nat) (e : Bool) (s : State) :
    (s.withTurn ts n e).accept op = (s.accept op).withTurn ts n e := by
  simp only [State.accept, apply_ite (State.withTurn ts n e)]
  rfl

/-- A write to a host register neither reads nor writes `turns`, `tick` and `evtValid`. -/
theorem State.writeReg_withTurn (a : HostAddr) (v : Byte) (ts : List Turn) (n : Nat) (e : Bool) (s : State) :
    (s.withTurn ts n e).writeReg a v = (s.writeReg a v).withTurn ts n e := by
  unfold State.writeReg
  split
  · rw [apply_ite (State.withTurn ts n e)]
    rfl
  · split
    case h_1 =>
      rw [apply_ite (State.withTurn ts n e), ← State.accept_withTurn]
      rfl
    case h_6 | h_7 => rfl
    all_goals
      rw [apply_ite (State.withTurn ts n e)]
      rfl

/-- A host write neither reads nor writes `turns`, `tick` and `evtValid`. -/
theorem State.hostWrite_withTurn (a : HostAddr) (v : Byte) (ts : List Turn) (n : Nat) (e : Bool) (s : State) :
    (s.withTurn ts n e).hostWrite a v = (s.hostWrite a v).withTurn ts n e := by
  rw [State.hostWrite, State.hostWrite, apply_ite (State.withTurn ts n e), ← State.writeReg_withTurn]
  rfl

/-- A host write leaves the step counter. -/
@[simp] theorem State.hostWrite_tick (a : HostAddr) (v : Byte) (s : State) : (s.hostWrite a v).tick = s.tick :=
  (congrArg State.tick (s.hostWrite_withTurn a v s.turns s.tick s.evtValid) :)

/-- A host write to a busy block changes nothing, sets OVR or is the write-one-to-clear of STATUS (10_state.md R27,
R33, R34). -/
theorem State.hostWrite_of_busy {s : State} (a : HostAddr) (v : Byte) (h : s.stBusy = true) :
    s.hostWrite a v = s ∨ s.hostWrite a v = s.setOvr ∨ s.hostWrite a v = s.w1cStatus v := by
  simp only [State.hostWrite, State.writeReg, h, if_true]
  split
  · split
    · exact .inr (.inl rfl)
    · split <;> simp
  · exact .inl rfl

/-- A host write to a busy block leaves the running command, the sequencer's phase and the reset input. -/
theorem State.hostWrite_of_busy_keeps {s : State} (a : HostAddr) (v : Byte) (h : s.stBusy = true) :
    (s.hostWrite a v).cur = s.cur ∧ (s.hostWrite a v).rs = s.rs ∧ (s.hostWrite a v).rstN = s.rstN := by
  obtain hw | hw | hw := s.hostWrite_of_busy a v h <;> rw [hw] <;> exact ⟨rfl, rfl, rfl⟩

/-! ### Steps by turn -/

/-- The first turn listed is next, and the others follow it. -/
theorem State.turn_of_turns {s : State} {w : Turn} {rest : List Turn} (h : s.turns = w :: rest) :
    s.turn = w ∧ rest = s.turns.drop 1 := by
  simp [State.turn, h]

/-- A step with a host write's turn is the write at the begun state. -/
theorem step_write {s : State} {a : HostAddr} {v : Byte} (h : s.turn = .write a v) :
    step s = .next (s.begin.hostWrite a v) := by
  simp [step, takeTurn, h]

/-- A host write beside an idle block is the write alone (70_reset_and_hazards.md R204). -/
theorem step_blockAndWrite_idle {s : State} {a : HostAddr} {v : Byte} (h : s.turn = .blockAndWrite a v)
    (hb : s.stBusy = false) : step s = .next (s.begin.hostWrite a v) := by
  simp [step, takeTurn, h, blockAndWrite, hb]

/-- A host write beside a busy block acts before the block's micro-step (10_state.md R27). -/
theorem step_blockAndWrite_busy {s : State} {a : HostAddr} {v : Byte} (h : s.turn = .blockAndWrite a v)
    (hb : s.stBusy = true) : step s = blockStep (s.begin.hostWrite a v) := by
  simp [step, takeTurn, h, blockAndWrite, hb]

/-- Beginning the step after a host write is writing at the begun state. -/
theorem State.begin_hostWrite (s : State) (a : HostAddr) (v : Byte) (w : Turn) :
    ({ s.hostWrite a v with turns := w :: s.turns.drop 1 } : State).begin = s.begin.hostWrite a v := by
  rw [s.begin_eq_withTurn, State.hostWrite_withTurn, ← s.hostWrite_tick a v]
  rfl

/-- The state a fetch word loads: a ready block that has just accepted the word's command, its own turn next (log entry
12). -/
theorem State.withFetchWord_eq {nbits w : Nat} {i : Instr} (s : State) (h : decodeTableWord nbits w = some i) :
    s.withFetchWord nbits w =
      { s with rstN := true, rs := .ready, stReady := true, ts := .idle, dly := false, turns := .block :: s.turns,
               opLast := opcodeOf i, stDone := false, stErr := false, errcode := .noError, stBusy := true,
               cur := some (opcodeOf i), k := 0 } := by
  have hop : opField ((tableWordBytes nbits w).headD 0x00) = opcodeOf i :=
    opcodeOf_of_decodeOp (by rw [decodeOp_opField, ← decodeTableWord_eq, h])
  rw [State.withFetchWord, State.loadCommand, hop]
  simp [State.accept]

/-- Settles O6, turn by turn: a block's turn, a write beside it, a write alone, and the fetch word. -/
theorem stepRunsTheRunningCommand : Obligations.StepRunsTheRunningCommand := by
  unfold Obligations.StepRunsTheRunningCommand
  refine ⟨fun s op i hr hp hc hd => ⟨fun ht => ?_, fun a v ht hb => ?_⟩,
    fun s a v rest => ⟨fun ht => ?_, fun ht hb => ?_, fun ht hb => ?_⟩, fun s nbits w i h => ?_⟩
  · rw [step_block ht]
    exact blockStep_running hr hp hc hd
  · obtain ⟨hcur, hrs, hrst⟩ := s.begin.hostWrite_of_busy_keeps a v hb
    have hturn : s.turn = .blockAndWrite a v := by simp [State.turn, List.headD_eq_head?_getD, ht]
    rw [step_blockAndWrite_busy hturn hb]
    exact blockStep_running (hrst.trans hr) (hrs.trans hp) (hcur.trans hc) hd
  · obtain ⟨hturn, rfl⟩ := State.turn_of_turns ht
    exact step_write hturn
  · obtain ⟨hturn, rfl⟩ := State.turn_of_turns ht
    exact step_blockAndWrite_idle hturn hb
  · obtain ⟨hturn, rfl⟩ := State.turn_of_turns ht
    rw [step_blockAndWrite_busy hturn hb, step_block rfl, s.begin_hostWrite]
  · rw [s.withFetchWord_eq h, step_block rfl]
    exact blockStep_running rfl rfl rfl (decodeOp_opcodeOf i)

end Sys2Proof.Machine
end

section
/-! SUPPORT. The invariant of the machine, update by update (10_state.md R27-R37; 70_reset_and_hazards.md R200). -/
namespace Sys2Proof.Machine

/-- Reset values say that nothing runs and that OVR is 0 (70_reset_and_hazards.md R203). -/
theorem State.AtResetValues.idle {s : State} (h : s.AtResetValues) : s.cur = none ∧ s.stOvr = false := by
  unfold State.AtResetValues at h
  tauto

/-- The end of the event strobe keeps the reset values, of which a low strobe is one. -/
theorem State.AtResetValues.begin {s : State} (h : s.AtResetValues) : s.begin.AtResetValues := by
  unfold State.AtResetValues at h ⊢
  simp [h]

/-- Reset values meet the invariant, beside a canonical radio and a low hold not yet begun. -/
theorem State.AtResetValues.inv {s : State} (h : s.AtResetValues) (hd : s.device.wf = true)
    (hl : s.lowHeld = false) : s.Inv := by
  have hv := h
  unfold State.AtResetValues at hv
  constructor
  case buf_wf => simp [hv, Memory.wf, Memory.wfFrom]
  case device_wf => exact hd
  case held => exact fun _ => h
  all_goals simp [hv, hl]

/-- Out of block reset, nothing is held at its reset value. -/
theorem State.held_of_rstN {s : State} (hn : s.rstN = true) : s.rstN = false → s.AtResetValues :=
  fun hr => absurd (hn.symm.trans hr) (by decide)

namespace State.Inv

variable {s : State}

/-- A command runs only out of block reset (R200). -/
theorem rstN_of_running (h : s.Inv) (hc : s.cur ≠ none) : s.rstN = true := by
  by_contra hn
  exact hc (h.held (by simpa using hn)).idle.1

/-- A running command keeps BUSY set and leaves no completion flag (R25, R27). -/
theorem flags_of_running (h : s.Inv) (hc : s.cur ≠ none) :
    s.stBusy = true ∧ s.stDone = false ∧ s.stErr = false ∧ s.errcode = .noError := by
  have hb : s.stBusy = true := h.busy_iff.2 (.inr (.inr (.inr hc)))
  exact ⟨hb, h.busy_clear hb⟩

/-- An idle block runs nothing and its reset sequence has ended, well or not (R27, R201). -/
theorem phase_of_idle (h : s.Inv) (hb : s.stBusy = false) : s.cur = none ∧ (s.rs = .ready ∨ s.rs = .failed) := by
  have hnot := mt h.busy_iff.2 (by simp [hb])
  cases hrs : s.rs <;> simp_all

/-- Only a ready block runs a command (R173). -/
theorem ready_of_running (h : s.Inv) (hc : s.cur ≠ none) : s.rs = .ready := by
  obtain ⟨op, hop⟩ := Option.ne_none_iff_exists'.1 hc
  exact (h.running op hop).1

/-- With nothing running the transmit state is IDLE (R117, R143). -/
theorem ts_of_none (h : s.Inv) (hc : s.cur = none) : s.ts = .idle := by
  by_contra hts
  simpa [hc] using h.ts_idle hts

/-- Out of AWAITING no poll delay is pending (R148). -/
theorem dly_of_ts (h : s.Inv) (hts : s.ts ≠ .awaiting) : s.dly = false := by
  by_contra hd
  exact hts (h.dly_awaiting (by simpa using hd)).1

/-- No command but TXCYCLE runs out of IDLE (R117). -/
theorem ts_of_cur {i : Instr} (h : s.Inv) (hc : s.cur = some (opcodeOf i)) (hi : i ≠ .txcycle) : s.ts = .idle := by
  by_contra hts
  have hop : opcodeOf i = opcodeOf .txcycle := by simpa [hc] using h.ts_idle hts
  have hdec := congrArg decodeOp hop
  simp only [decodeOp_opcodeOf, Option.some.injEq] at hdec
  exact hi hdec

/-! ### The start of a step, host reads and block reset -/

theorem begin (h : s.Inv) : s.begin.Inv := { h with held := fun hr => (h.held hr).begin }

/-- The read data and the turns to come are in no clause. -/
theorem hostData (h : s.Inv) (d : Byte) (turns : List Turn) : State.Inv { s with hRdata := d, turns := turns } :=
  { h with }

theorem hostRead (h : s.Inv) (a : HostAddr) : (s.hostRead a).Inv := h.hostData (s.readReg a) s.turns

theorem hostWait (h : s.Inv) (gaps : List Nat) : (s.hostWait gaps).Inv := h.hostData (s.readReg 0x005) _

/-- The fall of `rst_n` gives reset values, which meet the invariant (R200, R203). -/
theorem blockReset (h : s.Inv) : s.blockReset.Inv :=
  State.AtResetValues.inv (by simp [State.AtResetValues, State.blockReset, State.reset]) h.device_wf rfl

theorem setRstN (h : s.Inv) (level : Bool) : (s.setRstN level).Inv := by
  cases level with
  | false => exact h.blockReset
  | true => exact { h with held := State.held_of_rstN rfl }

/-! ### The lines and the registers -/

/-- Lines at rest, a canonical radio and any history (R37, R44). -/
theorem atRest (h : s.Inv) (hn : s.rstN = true) {d : Device} (hd : d.wf = true) (m : Bool) (l : List HistEntry) :
    State.Inv { s with device := d, cs := !s.params.csActive, sck := false, mosi := m, history := l } :=
  { h with
    device_wf := hd
    lines := ⟨rfl, rfl⟩
    held := State.held_of_rstN hn }

theorem exchange (h : s.Inv) (hn : s.rstN = true) (tx : List Byte) (e : HistEntry) : (s.exchange tx e).Inv :=
  h.atRest hn (State.deviceAfter_wf tx h.device_wf) (Config.mosiIdle s.tick) (s.history ++ [e])

theorem emit (h : s.Inv) (hn : s.rstN = true) (e : Event) : (s.emit e).Inv :=
  { h with held := State.held_of_rstN hn }

/-- ADDR, LEN and DATA take any value, and BUF any canonical one (R23, R24, R26, R32). -/
theorem operands (h : s.Inv) (hn : s.rstN = true) (addr len lo hi : Byte) {buf : Memory}
    (hb : Memory.wf none Config.bufSize buf = true) :
    State.Inv { s with addr := addr, len := len, dataLo := lo, dataHi := hi, buf := buf } :=
  { h with buf_wf := hb, held := State.held_of_rstN hn }

/-- A write to STATUS clears flags, which no clause forbids (R27). -/
theorem w1cStatus (h : s.Inv) (hn : s.rstN = true) (v : Byte) : (s.w1cStatus v).Inv :=
  { h with
    busy_clear := fun hb => by simp [h.busy_clear hb]
    err_code := fun he => h.err_code (by simp at he; exact he.1)
    held := State.held_of_rstN hn }

theorem setOvr (h : s.Inv) (hn : s.rstN = true) : s.setOvr.Inv := { h with held := State.held_of_rstN hn }

/-! ### Acceptance, completion and errors -/

/-- The values with which a command ends, well or not (40_register_bus.md R115, 60_exceptions.md R172). -/
theorem ended (h : s.Inv) (hn : s.rstN = true) (hp : s.rs = .ready ∨ s.rs = .failed) {err dly : Bool} {e : ErrCode}
    (he : err = true → e ≠ .noError) (ht : e = .timeout → s.params.pollLimit ≠ none) (hd : dly = false) :
    State.Inv { s with stBusy := false, stDone := true, stErr := err, errcode := e, cur := none, k := 0, dly := dly,
                       ts := .idle } :=
  { h with
    busy_iff := by rcases hp with hp | hp <;> simp [hp]
    running := by simp
    busy_clear := by simp
    err_code := he
    timeout_bound := ht
    ts_idle := by simp
    k_idle := by simp
    k_dump := by simp
    k_config := by simp
    k_loading := by simp
    dly_awaiting := by simp [hd]
    held := State.held_of_rstN hn }

theorem complete (h : s.Inv) (hc : s.cur ≠ none) (hd : s.dly = false) : s.complete.Inv :=
  h.ended (h.rstN_of_running hc) (.inl (h.ready_of_running hc)) h.err_code h.timeout_bound hd

theorem raise (h : s.Inv) (hn : s.rstN = true) (hp : s.rs = .ready ∨ s.rs = .failed) {e : ErrCode}
    (he : e ≠ .noError) (ht : e = .timeout → s.params.pollLimit ≠ none) : (s.raise e).Inv :=
  h.ended hn hp (fun _ => he) ht rfl

/-- Acceptance starts the command or ends it at once with an error (R25, R171, R173). -/
theorem accept (h : s.Inv) (hn : s.rstN = true) (hb : s.stBusy = false) (op : Opcode) : (s.accept op).Inv := by
  obtain ⟨hc, hp⟩ := h.phase_of_idle hb
  have hts := h.ts_of_none hc
  have hd : s.dly = false := h.dly_of_ts (by simp [hts])
  have hop : State.Inv { s with opLast := op } :=
    { h with running := by simp [hc], held := State.held_of_rstN hn }
  obtain ⟨-, ha⟩ | ⟨-, -, ha⟩ | ⟨hf, hdec, ha⟩ := s.accept_cases op <;> rw [ha]
  · exact hop.raise hn hp (e := .init) (by decide) (by simp)
  · exact hop.raise hn hp (e := .illegalOp) (by decide) (by simp)
  · have hr : s.rs = .ready := hp.resolve_right hf
    exact { h with
      busy_iff := by simp
      running := by simp [hr, hdec]
      busy_clear := by simp
      err_code := by simp
      timeout_bound := by simp
      ts_idle := by simp [hts]
      k_idle := by simp
      k_dump := by simp
      k_config := by simp
      k_loading := by simp [hts]
      dly_awaiting := by simp [hd]
      held := State.held_of_rstN hn }

/-! ### Host writes -/

/-- What a busy block answers with OVR needs a proof for the idle block alone (R34). -/
theorem setOvr_or (h : s.Inv) (hn : s.rstN = true) {t : State} (ht : s.stBusy = false → t.Inv) :
    State.Inv (if s.stBusy then s.setOvr else t) := by
  cases hb : s.stBusy with
  | true => exact h.setOvr hn
  | false => exact ht hb

theorem writeReg (h : s.Inv) (hn : s.rstN = true) (a : HostAddr) (v : Byte) : (s.writeReg a v).Inv := by
  unfold State.writeReg
  split
  · exact h.setOvr_or hn fun _ => h.operands hn _ _ _ _ (bufStore_wf _ v h.buf_wf)
  · split
    case h_1 => exact h.setOvr_or hn fun hb => h.accept hn hb (opField v)
    case h_6 => exact h.w1cStatus hn v
    case h_7 => exact h
    all_goals exact h.setOvr_or hn fun _ => h.operands hn _ _ _ _ h.buf_wf

theorem hostWrite (h : s.Inv) (a : HostAddr) (v : Byte) : (s.hostWrite a v).Inv := by
  unfold State.hostWrite
  split
  · exact h.writeReg ‹_› a v
  · exact h

/-! ### The reset sequence (R200, R201) -/

/-- Nothing runs before the block is ready. -/
theorem cur_of_phase (h : s.Inv) (hp : s.rs ≠ .ready) : s.cur = none := by
  by_contra hc
  exact hp (h.ready_of_running hc)

theorem resetS0 (h : s.Inv) (hn : s.rstN = true) (hp : s.rs = .opening) : (resetS0 s).Inv := by
  have hc := h.cur_of_phase (by simp [hp])
  have hr : s.stReady = false := by simpa [hp] using h.ready_iff
  unfold Machine.resetS0
  simp only
  split
  · exact { h with
      busy_iff := by simpa [hp] using h.busy_iff
      ready_iff := by simp [hr]
      running := by simp [hc]
      rst_line := by simp
      low_held := by simp
      held := State.held_of_rstN hn }
  · exact { h with
      busy_iff := by simp [hc]
      ready_iff := by simp
      running := by simp [hc]
      busy_clear := by simp
      err_code := by simp
      timeout_bound := by simp
      rst_line := by simpa [hp] using h.rst_line
      low_held := by simpa [hp] using h.low_held
      held := State.held_of_rstN hn }

theorem resetS1 (h : s.Inv) (hn : s.rstN = true) (hp : s.rs = .low) : (resetS1 s).Inv :=
  { h with low_held := fun _ => hp, held := State.held_of_rstN hn }

theorem resetS2 (h : s.Inv) (hn : s.rstN = true) (hp : s.rs = .low) : (resetS2 s).Inv :=
  { h with
    busy_iff := by simpa [hp, Machine.resetS2] using h.busy_iff
    ready_iff := by simpa [hp, Machine.resetS2] using h.ready_iff
    running := by simp [h.cur_of_phase, hp, Machine.resetS2]
    rst_line := by simp [Machine.resetS2]
    low_held := by simp [Machine.resetS2]
    held := State.held_of_rstN hn }

theorem resetS3 (h : s.Inv) (hn : s.rstN = true) (hp : s.rs = .high) : (resetS3 s).Inv :=
  { h with
    busy_iff := by simp [h.cur_of_phase, hp, Machine.resetS3]
    ready_iff := by simp [Machine.resetS3]
    running := by simp [h.cur_of_phase, hp, Machine.resetS3]
    busy_clear := by simp [Machine.resetS3]
    rst_line := by simpa [hp, Machine.resetS3] using h.rst_line
    low_held := by simpa [hp, Machine.resetS3] using h.low_held
    held := State.held_of_rstN hn }

/-! ### The sequencer -/

/-- The next micro-step index of DUMP or CONFIG (R31). -/
theorem nextIndex (h : s.Inv) (hc : s.cur ≠ none) (hts : s.ts = .idle) {k : Nat}
    (hdump : s.cur = some (opcodeOf .dump) → k ≤ Config.dumpLast)
    (hconfig : s.cur = some (opcodeOf .config) → k < 3) : State.Inv { s with k := k } :=
  { h with
    k_idle := fun hc' => absurd hc' hc
    k_dump := hdump
    k_config := hconfig
    k_loading := by simp [hts]
    held := State.held_of_rstN (h.rstN_of_running hc) }

/-- TXCYCLE moves on: any transmit state, an index in LOADING's range, and a delay only after a clear poll (R31, R143,
R148). -/
theorem txMove (h : s.Inv) (hc : s.cur = some (opcodeOf .txcycle)) (ts : TxState) (k : Nat) (dly : Bool)
    (irq : Byte) (pollcnt : BitVec 16) (nclear : Nat) (hload : ts = .loading → 1 ≤ k ∧ k ≤ 4)
    (hdly : dly = true → ts = .awaiting ∧ txDoneFlag irq = false) :
    State.Inv { s with ts := ts, k := k, dly := dly, lastirq := irq, pollcnt := pollcnt, nclear := nclear } :=
  { h with
    ts_idle := fun _ => hc
    k_idle := by simp [hc]
    k_dump := by simp [hc, opcodeOf]
    k_config := by simp [hc, opcodeOf]
    k_loading := hload
    dly_awaiting := hdly
    held := State.held_of_rstN (h.rstN_of_running (by simp [hc])) }

end State.Inv

/-! ### The micro-steps of the commands -/

/-- Entering a transmit state commutes with the frame's exchange. -/
theorem State.exchange_withTs (w : State) (m : TxState) (tx : List Byte) (e : HistEntry) :
    ({ w with ts := m } : State).exchange tx e = { w.exchange tx e with ts := m } := by
  cases w
  rfl

/-- The state in which a frame is sent is one with the invariant, but for the transmit state TXCYCLE has entered. -/
theorem FrameStep.inv_before {i : Instr} {s u : State} {tx : List Byte} {f : List Byte → State → State}
    (hf : FrameStep i s u tx f) (h : s.Inv) (hc : s.cur = some (opcodeOf i)) :
    ∃ w : State, u = { w with ts := u.ts } ∧ w.Inv ∧ w.cur = s.cur ∧ w.ts = s.ts ∧ w.dly = s.dly := by
  have hn := h.rstN_of_running (by simp [hc])
  cases hf with
  | l1 => exact ⟨s.emit .loading, rfl, h.emit hn _, rfl, rfl, rfl⟩
  | transmit => exact ⟨s.emit .transmitting, rfl, h.emit hn _, rfl, rfl, rfl⟩
  | firstPoll =>
    exact ⟨_, rfl, h.txMove hc s.ts s.k s.dly s.lastirq 0x0000 0 h.k_loading h.dly_awaiting, rfl, rfl, rfl⟩
  | clear => exact ⟨s.emit .done, rfl, h.emit hn _, rfl, rfl, rfl⟩
  | _ => exact ⟨s, rfl, h, rfl, rfl, rfl⟩

/-- A successful poll keeps the invariant (41_transmit_controller.md R147, R150). -/
theorem pollResult_inv {s : State} (h : s.Inv) (hc : s.cur = some (opcodeOf .txcycle)) (hts : s.ts = .awaiting)
    (hd : s.dly = false) (rx : List Byte) : (pollResult rx s).Inv := by
  have hrun : s.cur ≠ none := by simp [hc]
  have hn := h.rstN_of_running hrun
  obtain ⟨-, hp⟩ | ⟨-, ⟨l, hl, -⟩, hp⟩ | ⟨hclear, -, hp⟩ := pollResult_cases rx s <;> rw [hp]
  · exact h.txMove hc s.ts s.k s.dly (rxByte rx 1) (satInc s.pollcnt) s.nclear (by simp [hts]) (by simp [hd])
  · have hm := h.txMove hc s.ts s.k s.dly (rxByte rx 1) (satInc s.pollcnt) (s.nclear + 1) (by simp [hts])
      (by simp [hd])
    exact (hm.emit hn .pollTick).raise hn (.inl (h.ready_of_running hrun)) (e := .timeout) (by decide) (by simp [hl])
  · have hm := h.txMove hc s.ts s.k true (rxByte rx 1) (satInc s.pollcnt) (s.nclear + 1) (by simp [hts])
      (by simp [hts, hclear])
    exact hm.emit hn .pollTick

/-- A successful DUMP frame keeps the invariant (40_register_bus.md R112). -/
theorem dumpResult_inv {s : State} (h : s.Inv) (hc : s.cur = some (opcodeOf .dump)) (rx : List Byte) :
    (dumpResult rx s).Inv := by
  have hrun : s.cur ≠ none := by simp [hc]
  have hts := h.ts_of_cur hc (by decide)
  have hb := h.operands (h.rstN_of_running hrun) s.addr s.len s.dataLo s.dataHi
    (bufStore_wf s.k (rxByte rx 1) h.buf_wf)
  have hk := h.k_dump hc
  obtain ⟨-, hr⟩ | ⟨hlast, hr⟩ := dumpResult_cases rx s <;> rw [hr]
  · exact hb.complete hrun (h.dly_of_ts (by simp [hts]))
  · exact hb.nextIndex hrun hts (fun _ => by omega) (by simp [hc, opcodeOf])

/-- What a command does with the bytes received keeps the invariant: `x` is the state after the frame's exchange, but
for the transmit state that TXCYCLE has entered. -/
theorem FrameStep.inv_result {i : Instr} {s u x : State} {tx : List Byte} {f : List Byte → State → State}
    (hf : FrameStep i s u tx f) (hx : x.Inv) (hc : x.cur = some (opcodeOf i)) (hts : x.ts = s.ts) (hd : x.dly = s.dly)
    (rx : List Byte) : (f rx { x with ts := u.ts }).Inv := by
  have hrun : x.cur ≠ none := by simp [hc]
  have hn := hx.rstN_of_running hrun
  have hidle : i ≠ .txcycle → x.ts = .idle := hx.ts_of_cur hc
  have hend : i ≠ .txcycle → x.dly = false := fun hi => hx.dly_of_ts (by simp [hidle hi])
  have hnone : x.ts ≠ .awaiting → s.dly = false := fun hne => hd ▸ hx.dly_of_ts hne
  cases hf with
  | rdb | rdw => exact (hx.operands hn _ _ _ _ hx.buf_wf).complete hrun (hend (by decide))
  | rdblk => exact (hx.operands hn _ _ _ _ (bufStoreAll_wf 0 _ hx.buf_wf)).complete hrun (hend (by decide))
  | wrb | wrw | wrblk | configPa => exact hx.complete hrun (hend (by decide))
  | dump => rw [← hts]; exact dumpResult_inv hx hc rx
  | configSleep | configFrf => rw [← hts]; exact hx.nextIndex hrun (hidle (by decide)) (by simp [hc, opcodeOf]) (by simp)
  | l1 _ hl =>
    exact hx.txMove hc .loading 1 x.dly x.lastirq x.pollcnt x.nclear (by simp) (by simp [hd, hnone, hts, hl])
  | l2 | l3 | l4 =>
    rw [← hts]
    refine hx.txMove hc x.ts _ x.dly x.lastirq x.pollcnt x.nclear ?_ hx.dly_awaiting
    simp
  | transmit _ hl =>
    exact hx.txMove hc .transmitting x.k x.dly x.lastirq x.pollcnt x.nclear (by simp) (by simp [hd, hnone, hts, hl])
  | firstPoll _ hl =>
    have hm := hx.txMove hc .awaiting x.k x.dly x.lastirq x.pollcnt x.nclear (by simp) (by simp [hd, hnone, hts, hl])
    exact pollResult_inv hm hc rfl (by simp [hd, hnone, hts, hl]) rx
  | poll _ hl hd' => rw [← hts]; exact pollResult_inv hx hc (hts.trans hl) (hd.trans hd') rx
  | clear _ hl hd' =>
    exact hx.txMove hc .done x.k x.dly x.lastirq x.pollcnt x.nclear (by simp) (by simp [hd, hd'])

/-- A frame of the running command keeps the invariant, whatever the radio answers. -/
theorem FrameStep.inv {i : Instr} {s u : State} {tx : List Byte} {f : List Byte → State → State}
    (hf : FrameStep i s u tx f) (h : s.Inv) (hc : s.cur = some (opcodeOf i)) : (u.runFrame tx f).Inv := by
  obtain ⟨w, hu, hw, hwc, hts, hd⟩ := hf.inv_before h hc
  have hrun : w.cur ≠ none := by simp [hwc, hc]
  have hn := hw.rstN_of_running hrun
  have hex : ∀ e, u.exchange tx e = { w.exchange tx e with ts := u.ts } := fun e => by
    rw [← State.exchange_withTs, ← hu]
  obtain ⟨rx, -, -, hr⟩ | ⟨-, hr⟩ := u.runFrame_cases tx f <;> rw [hr, hex]
  · exact hf.inv_result (hw.exchange hn tx _) (by simp [hwc, hc]) (by simp [hts]) (by simp [hd]) rx
  · exact (hw.exchange hn tx (.fail tx)).raise hn (.inl (hw.ready_of_running hrun)) (e := .bus) (by decide) (by simp)

/-- A micro-step of the running command keeps the invariant. -/
theorem exec_inv {i : Instr} {s t : State} (h : s.Inv) (hc : s.cur = some (opcodeOf i)) (ht : exec i s = .next t) :
    t.Inv := by
  obtain ⟨rfl, hts, hd, rfl⟩ | ⟨rfl, hts, rfl⟩ | ⟨u, tx, f, hf, rfl⟩ := exec_next ht
  · have hn := h.rstN_of_running (by simp [hc])
    have hm := h.txMove hc s.ts s.k false s.lastirq s.pollcnt s.nclear h.k_loading (by simp)
    exact { hm with held := State.held_of_rstN hn }
  · exact h.complete (by simp [hc]) (h.dly_of_ts (by simp [hts]))
  · exact hf.inv h hc

/-- The micro-step of a block in reset, in the reset sequence, idle or running a command (R200, R204). -/
theorem blockStep_cases {s t : State} (h : s.Inv) (ht : blockStep s = .next t) :
    (s.cur = none ∧ (s.rstN = true → s.rs = .ready ∨ s.rs = .failed) ∧ t = s) ∨
    (s.rstN = true ∧ s.rs = .opening ∧ t = resetS0 s) ∨
    (s.rstN = true ∧ s.rs = .low ∧ t = if s.lowHeld then resetS2 s else resetS1 s) ∨
    (s.rstN = true ∧ s.rs = .high ∧ t = resetS3 s) ∨
    ∃ i, s.cur = some (opcodeOf i) ∧ exec i s = .next t := by
  unfold blockStep at ht
  split at ht
  case isFalse hn =>
    cases ht
    exact .inl ⟨(h.held (by simpa using hn)).idle.1, fun hn' => absurd hn' hn, rfl⟩
  case isTrue hn =>
    split at ht
    case h_1 hp => cases ht; exact .inr (.inl ⟨hn, hp, rfl⟩)
    case h_2 hp => cases ht; exact .inr (.inr (.inl ⟨hn, hp, rfl⟩))
    case h_3 hp => cases ht; exact .inr (.inr (.inr (.inl ⟨hn, hp, rfl⟩)))
    all_goals
      rename_i hp
      split at ht
      case h_1 hc => cases ht; exact .inl ⟨hc, fun _ => by simp [hp], rfl⟩
      case h_2 op hc =>
        split at ht
        case h_1 i hd =>
          obtain rfl := opcodeOf_of_decodeOp hd
          exact .inr (.inr (.inr (.inr ⟨i, hc, ht⟩)))
        case h_2 => cases ht

/-- The block's own turn keeps the invariant. -/
theorem blockStep_inv {s t : State} (h : s.Inv) (ht : blockStep s = .next t) : t.Inv := by
  obtain ⟨-, -, rfl⟩ | ⟨hn, hp, rfl⟩ | ⟨hn, hp, rfl⟩ | ⟨hn, hp, rfl⟩ | ⟨i, hc, hx⟩ := blockStep_cases h ht
  · exact h
  · exact h.resetS0 hn hp
  · split
    · exact h.resetS2 hn hp
    · exact h.resetS1 hn hp
  · exact h.resetS3 hn hp
  · exact exec_inv h hc hx

/-- Settles O49, turn by turn: a host access, a change of `rst_n`, or the block's micro-step, after a host write or
without one. -/
theorem everyStepKeepsTheInvariant : Obligations.EveryStepKeepsTheInvariant := by
  unfold Obligations.EveryStepKeepsTheInvariant
  intro s t h ht
  have hb := h.begin
  unfold step takeTurn at ht
  split at ht
  case h_1 => exact blockStep_inv hb ht
  case h_2 a v _ => cases ht; exact hb.hostWrite a v
  case h_3 a _ => cases ht; exact hb.hostRead a
  case h_4 gaps _ => cases ht; exact hb.hostWait gaps
  case h_5 a v _ =>
    unfold blockAndWrite at ht
    split at ht
    · exact blockStep_inv (hb.hostWrite a v) ht
    · cases ht; exact hb.hostWrite a v
  case h_6 level _ => cases ht; exact hb.setRstN level

end Sys2Proof.Machine
end

section
/-! SUPPORT. The host register port, address by address (10_state.md R21-R35). -/
namespace Sys2Proof.Machine

/-! ### Host writes -/

/-- Out of block reset a host write reaches the register (R34). -/
theorem State.hostWrite_of_rstN (s : State) (a : HostAddr) (v : Byte) (hn : s.rstN = true) :
    s.hostWrite a v = s.writeReg a v := if_pos hn

theorem State.writeReg_cmd (s : State) (v : Byte) :
    s.writeReg 0x000 v = if s.stBusy then s.setOvr else s.accept (opField v) := rfl

/-- BUF starts at 0x100 (R32). -/
theorem State.writeReg_buf {a : HostAddr} (s : State) (v : Byte) (ha : 0x100 ≤ a.toNat) :
    s.writeReg a v = if s.stBusy then s.setOvr else { s with buf := bufStore s.buf (a.toNat - 0x100) v } :=
  if_pos ha

/-- A busy block answers a write to CMD, an operand register or BUF with OVR alone (R34). -/
theorem State.writeReg_of_busy {s : State} {a : HostAddr} (v : Byte) (hb : s.stBusy = true)
    (ha : a.toNat ≤ 0x004 ∨ 0x100 ≤ a.toNat) : s.writeReg a v = s.setOvr := by
  unfold State.writeReg
  simp only [hb, if_true]
  split
  · rfl
  · split
    case h_6 => omega
    case h_7 => simp only [imp_false] at *; omega
    all_goals rfl

/-- The read-only and the reserved registers take no write (R33, R34). -/
theorem State.writeReg_readOnly {a : HostAddr} (s : State) (v : Byte) (hlo : 0x006 ≤ a.toNat)
    (hhi : a.toNat < 0x100) : s.writeReg a v = s := by
  unfold State.writeReg
  rw [if_neg (by omega)]
  split
  case h_7 => rfl
  all_goals omega

/-- Settles O12: a CMD write at the begun state is an acceptance, or OVR at a busy block. -/
theorem commandWriteIsAcceptedExactlyWhenIdle : Obligations.CommandWriteIsAcceptedExactlyWhenIdle := by
  unfold Obligations.CommandWriteIsAcceptedExactlyWhenIdle
  intro s w rest hn ht
  obtain ⟨hturn, rfl⟩ := State.turn_of_turns ht
  rw [step_write hturn, s.begin.hostWrite_of_rstN _ _ hn, State.writeReg_cmd]
  refine ⟨fun hb hf hdec => ?_, fun hb => ?_⟩
  · rw [if_neg (by simp [hb])]
    obtain ⟨hf', -⟩ | ⟨-, hnone, -⟩ | ⟨-, -, ha⟩ := s.begin.accept_cases (opField w)
    · exact absurd hf' hf
    · exact absurd hnone hdec
    · rw [ha]
      rfl
  · rw [if_pos (show s.begin.stBusy = true from hb)]
    rfl

/-- Settles O15, by address: the writable registers of a busy block, STATUS, and the read-only registers. -/
theorem busyWritesAreIgnoredAndSetOvr : Obligations.BusyWritesAreIgnoredAndSetOvr := by
  unfold Obligations.BusyWritesAreIgnoredAndSetOvr
  intro s a v hn
  rw [s.hostWrite_of_rstN a v hn]
  refine ⟨fun hb ha => State.writeReg_of_busy v hb ha, fun ha => ?_,
    fun hlo hhi => s.writeReg_readOnly v hlo (by omega)⟩
  rw [ha]
  rfl

/-- The byte of BUF that a host address selects (R32). -/
theorem bufAddr_toNat (i : Byte) : (0x100 + i.setWidth 9 : HostAddr).toNat = 0x100 + i.toNat := by
  have : i.toNat < 256 := i.isLt
  rw [BitVec.toNat_add, BitVec.toNat_setWidth, show (0x100 : HostAddr).toNat = 0x100 from rfl]
  omega

/-- What BUF reads as after one byte is stored (R32). -/
theorem bufByte_bufStore (s : State) (i j : Nat) (v : Byte) (hi : i < Config.bufSize) :
    ({ s with buf := bufStore s.buf i v } : State).bufByte j = if j = i then v else s.bufByte j := by
  simp only [State.bufByte, bufStore_lookup, Nat.mod_eq_of_lt hi, eq_comm (a := i)]
  split <;> rfl

/-- Settles O20, by address: the four operand registers, and BUF with the byte read back. -/
theorem idleHostWritesStoreTheByte : Obligations.IdleHostWritesStoreTheByte := by
  unfold Obligations.IdleHostWritesStoreTheByte
  intro s v hn hb
  have hidle : ∀ a, s.hostWrite a v = s.writeReg a v := fun a => s.hostWrite_of_rstN a v hn
  have hif : ∀ t, (if s.stBusy then s.setOvr else t) = t := fun t => if_neg (by simp [hb])
  simp only [hidle]
  refine ⟨hif _, hif _, hif _, hif _, fun i => ?_⟩
  rw [s.writeReg_buf v (by rw [bufAddr_toNat]; omega), hif, bufAddr_toNat, Nat.add_sub_cancel_left]
  exact ⟨_, rfl, fun j => bufByte_bufStore s i.toNat j v i.isLt⟩

/-! ### Host reads -/

theorem State.readReg_buf {a : HostAddr} (s : State) (ha : 0x100 ≤ a.toNat) :
    s.readReg a = s.unlessBusy (s.bufByte (a.toNat - 0x100)) := if_pos ha

/-- A reserved address reads as 0 (R33). -/
theorem State.readReg_reserved {a : HostAddr} (s : State) (hlo : 0x00B ≤ a.toNat) (hhi : a.toNat < 0x100) :
    s.readReg a = 0x00 := by
  unfold State.readReg
  rw [if_neg (by omega)]
  split
  case h_12 => rfl
  all_goals omega

/-- An idle block reads every register as it is (R35). -/
theorem State.unlessBusy_of_idle {s : State} (v : Byte) (hb : s.stBusy = false) : s.unlessBusy v = v :=
  if_neg (by simp [hb])

/-- DATA and BUF of a busy block read as the step's free value (R35, U6). -/
theorem State.readReg_of_busy {s : State} {a : HostAddr} (hb : s.stBusy = true)
    (ha : a = 0x003 ∨ a = 0x004 ∨ 0x100 ≤ a.toNat) : s.readReg a = Config.busyRead s.tick := by
  obtain rfl | rfl | ha := ha
  · exact if_pos hb
  · exact if_pos hb
  · rw [s.readReg_buf ha]
    exact if_pos hb

/-- Beginning a step changes no register's read, but for the free value. -/
theorem State.readReg_begin (s : State) (a : HostAddr)
    (h : s.stBusy = false ∨ (a ≠ 0x003 ∧ a ≠ 0x004 ∧ a.toNat < 0x100)) : s.begin.readReg a = s.readReg a := by
  obtain hb | ⟨h3, h4, ha⟩ := h
  · have hu : ∀ v, s.begin.unlessBusy v = s.unlessBusy v := fun v => by
      rw [State.unlessBusy_of_idle v hb, State.unlessBusy_of_idle v (s := s.begin) hb]
    unfold State.readReg
    simp only [hu]
    rfl
  · have h3' : a.toNat ≠ 3 := fun h => h3 (BitVec.eq_of_toNat_eq h)
    have h4' : a.toNat ≠ 4 := fun h => h4 (BitVec.eq_of_toNat_eq h)
    unfold State.readReg
    rw [if_neg (by omega), if_neg (by omega)]
    split
    case h_4 | h_5 => omega
    all_goals rfl

/-- A step with a host read's turn drives the read-data port (R35, R36). -/
theorem step_read {s : State} {a : HostAddr} (h : s.turn = .read a) : step s = .next (s.begin.hostRead a) := by
  simp [step, takeTurn, h]

/-- Settles O17: the step is the read at the begun state. -/
theorem hostReadsHaveNoSideEffects : Obligations.HostReadsHaveNoSideEffects := by
  unfold Obligations.HostReadsHaveNoSideEffects
  intro s a rest ht
  obtain ⟨hturn, rfl⟩ := State.turn_of_turns ht
  refine ⟨s.begin.readReg a, step_read hturn, fun hb ha => State.readReg_of_busy (s := s.begin) hb ha,
    fun hb => s.readReg_begin a (.inl hb), fun h3 h4 ha => s.readReg_begin a (.inr ⟨h3, h4, ha⟩)⟩

/-- The two halves of a word make up the word (R30). -/
theorem wordHi_append_wordLo (v : BitVec 16) : (wordHi v ++ wordLo v : BitVec 16) = v := by
  apply BitVec.eq_of_getLsbD_eq
  intro i hi
  simp only [wordHi, wordLo, BitVec.getLsbD_append]
  interval_cases i <;> simp

/-- Settles O18, by address. -/
theorem hostRegisterMapReadsTheState : Obligations.HostRegisterMapReadsTheState := by
  unfold Obligations.HostRegisterMapReadsTheState
  intro s
  refine ⟨rfl, rfl, rfl, fun hb => ⟨State.unlessBusy_of_idle _ hb, State.unlessBusy_of_idle _ hb⟩, ?_, ?_,
    wordHi_append_wordLo s.pollcnt, rfl, fun i hb => ?_⟩
  · rw [show s.readReg 0x006 = s.errcode.code.setWidth 8 from rfl]
    cases s.errcode <;> rfl
  · rw [show s.readReg 0x007 = s.ts.code.setWidth 8 from rfl]
    cases s.ts <;> rfl
  · rw [s.readReg_buf (by rw [bufAddr_toNat]; omega), bufAddr_toNat, Nat.add_sub_cancel_left,
      State.unlessBusy_of_idle _ hb]

/-- Settles O19: a reserved address reads as 0 and takes no write, in or out of block reset. -/
theorem reservedHostAddressesAreInert : Obligations.ReservedHostAddressesAreInert := by
  unfold Obligations.ReservedHostAddressesAreInert
  intro s a v hlo hhi
  refine ⟨s.readReg_reserved hlo (by omega), ?_⟩
  unfold State.hostWrite
  split
  · exact s.writeReg_readOnly v (by omega) (by omega)
  · rfl

end Sys2Proof.Machine
end

section
/-! SUPPORT. STATUS and ERRCODE over a micro-step, beside a host write or without one (10_state.md R27, R28). -/
namespace Sys2Proof.Machine

/-- The bits of STATUS, and ERRCODE (10_state.md R27, R28). -/
def State.flags (s : State) : Bool × Bool × Bool × Bool × Bool × ErrCode :=
  (s.stBusy, s.stDone, s.stErr, s.stOvr, s.stReady, s.errcode)

/-- Equal flags are equal one by one. -/
theorem State.flags_eq_iff {s t : State} : t.flags = s.flags ↔
    t.stBusy = s.stBusy ∧ t.stDone = s.stDone ∧ t.stErr = s.stErr ∧ t.stOvr = s.stOvr ∧ t.stReady = s.stReady ∧
      t.errcode = s.errcode := by
  simp only [State.flags, Prod.mk.injEq]

/-- The flags after `s` in `t`: as they were, those of a completion, or those of an error (40_register_bus.md R115,
60_exceptions.md R172). -/
def State.FlagsFollow (s t : State) : Prop :=
  t.flags = s.flags ∨ t.flags = s.complete.flags ∨ ∃ e, e ≠ .noError ∧ t.flags = (s.raise e).flags

/-- Only the flags before count. -/
theorem State.FlagsFollow.of_flags_eq {s u t : State} (h : u.FlagsFollow t) (hu : u.flags = s.flags) :
    s.FlagsFollow t := by
  simp only [State.FlagsFollow, State.flags_eq_iff] at *
  simpa [hu] using h

theorem State.flags_exchange (s : State) (tx : List Byte) (e : HistEntry) : (s.exchange tx e).flags = s.flags := by
  simp [State.flags]

/-- An event, a transmit state or a counter moves no flag. -/
theorem FrameStep.flags_before {i : Instr} {s u : State} {tx : List Byte} {f : List Byte → State → State}
    (hf : FrameStep i s u tx f) : u.flags = s.flags := by
  cases hf <;> rfl

/-- What a command does with the bytes received moves no flag but by completion, or by a poll's TIMEOUT. -/
theorem FrameStep.flags_after {i : Instr} {s u : State} {tx : List Byte} {f : List Byte → State → State}
    (hf : FrameStep i s u tx f) (rx : List Byte) (t : State) : t.FlagsFollow (f rx t) := by
  cases hf with
  | rdb | rdw | rdblk | wrb | wrw | wrblk | configPa => exact .inr (.inl rfl)
  | dump =>
    obtain ⟨-, hd⟩ | ⟨-, hd⟩ := dumpResult_cases rx t <;> rw [hd]
    · exact .inr (.inl rfl)
    · exact .inl rfl
  | firstPoll | poll =>
    obtain ⟨-, hp⟩ | ⟨-, -, hp⟩ | ⟨-, -, hp⟩ := pollResult_cases rx t <;> rw [hp]
    · exact .inl rfl
    · exact .inr (.inr ⟨.timeout, by decide, rfl⟩)
    · exact .inl rfl
  | _ => exact .inl rfl

/-- A micro-step of a command moves no flag but by completion or by an error. -/
theorem exec_flags {i : Instr} {s t : State} (h : exec i s = .next t) : s.FlagsFollow t := by
  obtain ⟨-, -, -, rfl⟩ | ⟨-, -, rfl⟩ | ⟨u, tx, f, hf, rfl⟩ := exec_next h
  · exact .inl rfl
  · exact .inr (.inl rfl)
  · have hx : ∀ e, (u.exchange tx e).flags = s.flags := fun e => by rw [State.flags_exchange, hf.flags_before]
    obtain ⟨rx, -, -, hr⟩ | ⟨-, hr⟩ := u.runFrame_cases tx f <;> rw [hr]
    · exact (hf.flags_after rx _).of_flags_eq (hx _)
    · exact State.FlagsFollow.of_flags_eq (.inr (.inr ⟨.bus, by decide, rfl⟩)) (hx _)

/-- What the block's turn does to the flags: completion sets DONE, an error of a running command or a failed opening
sets ERR, and OVR keeps its level (10_state.md R27, 70_reset_and_hazards.md R201). -/
theorem blockStep_flags {s t : State} (h : s.Inv) (ht : blockStep s = .next t) :
    (s.cur ≠ none → t.stBusy = false → t.stDone = true) ∧
    (s.cur ≠ none → t.errcode ≠ .noError → t.stErr = true) ∧
    (s.rs = .opening → t.rs = .failed → t.stErr = true) ∧ t.stOvr = s.stOvr := by
  obtain ⟨hc, -, rfl⟩ | ⟨-, hp, rfl⟩ | ⟨-, hp, rfl⟩ | ⟨-, hp, rfl⟩ | ⟨i, hc, hx⟩ := blockStep_cases h ht
  · simp +contextual [hc]
  · have hc : s.cur = none := h.cur_of_phase (by simp [hp])
    unfold resetS0
    cases s.initDraw <;> simp [hc]
  · split <;> simp [hp, h.cur_of_phase, resetS1, resetS2]
  · simp [hp, h.cur_of_phase, resetS3]
  · have hrun : s.cur ≠ none := by simp [hc]
    have hp := h.ready_of_running hrun
    obtain ⟨hb, -, -, he⟩ := h.flags_of_running hrun
    obtain hf | hf | ⟨e, -, hf⟩ := exec_flags hx <;> rw [State.flags_eq_iff] at hf <;> simp [hf, hb, he, hp]

/-- A write to STATUS clears OVR by its bit alone; in block reset OVR is 0 anyway (R27, R200). -/
theorem State.Inv.hostWrite_status_ovr {s : State} (h : s.Inv) (v : Byte) :
    (s.hostWrite 0x005 v).stOvr = (s.stOvr && !v.getLsbD 3) := by
  cases hn : s.rstN with
  | true =>
    rw [s.hostWrite_of_rstN _ _ hn]
    rfl
  | false => simp [State.hostWrite, hn, (h.held hn).idle]

/-- STATUS shows each of its five flags in a bit of its own, with zeros above (R27). -/
theorem bitAt_bits : ∀ b0 b1 b2 b3 b4 : Bool,
    let x := bitAt 0 b0 ||| bitAt 1 b1 ||| bitAt 2 b2 ||| bitAt 3 b3 ||| bitAt 4 b4
    x.getLsbD 0 = b0 ∧ x.getLsbD 1 = b1 ∧ x.getLsbD 2 = b2 ∧ x.getLsbD 3 = b3 ∧ x.getLsbD 4 = b4 ∧
      x.extractLsb' 5 3 = 0 := by
  decide

/-- Settles O16: the write acts first, so the flags the block's turn sets stay set (`blockStep_flags`). -/
theorem statusReadsItsBitsAndTheSetWins : Obligations.StatusReadsItsBitsAndTheSetWins := by
  unfold Obligations.StatusReadsItsBitsAndTheSetWins
  refine ⟨fun s => ⟨rfl, bitAt_bits _ _ _ _ _⟩, fun s t v rest h hturns ht => ?_⟩
  obtain ⟨hturn, -⟩ := State.turn_of_turns hturns
  have hovr := h.begin.hostWrite_status_ovr v
  cases hb : s.stBusy with
  | false =>
    rw [step_blockAndWrite_idle hturn hb] at ht
    cases ht
    obtain ⟨hc, hp⟩ := h.phase_of_idle hb
    have hopen : s.rs ≠ .opening := by obtain hp | hp := hp <;> simp [hp]
    exact ⟨absurd hc, absurd hc, fun hrs => absurd hrs hopen, hovr⟩
  | true =>
    rw [step_blockAndWrite_busy hturn hb] at ht
    obtain ⟨hcur, hrs, -⟩ := s.begin.hostWrite_of_busy_keeps 0x005 v hb
    obtain ⟨hdone, herr, hfail, hkeep⟩ := blockStep_flags (h.begin.hostWrite 0x005 v) ht
    rw [hcur] at hdone herr
    rw [hrs] at hfail
    exact ⟨hdone, herr, hfail, hkeep.trans hovr⟩

end Sys2Proof.Machine
end

section
/-! SUPPORT. The bytes of BUF a command writes (10_state.md R32). -/
namespace Sys2Proof.Machine

/-- BUF reads the same where the memory and the reset draws are the same. -/
theorem State.bufByte_congr {s t : State} (hb : t.buf = s.buf) (hd : t.bufDraw = s.bufDraw) (j : Nat) :
    t.bufByte j = s.bufByte j := by
  rw [State.bufByte, State.bufByte, hb, hd]

/-- A block read reaches `BUF[0..N-1]` alone (40_register_bus.md R104). -/
theorem bufByte_beyond_bufStoreAll {s t : State} {vs : List Byte} {j : Nat} (hb : t.buf = bufStoreAll s.buf 0 vs)
    (hd : t.bufDraw = s.bufDraw) (hfit : vs.length ≤ Config.bufSize) (hj : vs.length ≤ j) :
    t.bufByte j = s.bufByte j := by
  rw [State.bufByte, State.bufByte, hb, hd, bufStoreAll_lookup _ _ _ _ (by omega), if_neg (by omega)]

/-- The byte that a DUMP frame stores is `BUF[k]` (40_register_bus.md R112). -/
theorem bufByte_dumpResult {s : State} {j : Nat} (rx : List Byte) (hk : s.k ≤ Config.dumpLast) (hj : j ≠ s.k) :
    (dumpResult rx s).bufByte j = s.bufByte j := by
  have hs := bufByte_bufStore s s.k j (rxByte rx 1) (Nat.lt_of_le_of_lt hk (by decide))
  rw [if_neg hj] at hs
  obtain ⟨-, hr⟩ | ⟨-, hr⟩ := dumpResult_cases rx s <;> rw [hr, ← hs] <;> exact State.bufByte_congr rfl rfl j

theorem bufByte_pollResult (rx : List Byte) (s : State) (j : Nat) : (pollResult rx s).bufByte j = s.bufByte j := by
  obtain ⟨-, h⟩ | ⟨-, -, h⟩ | ⟨-, -, h⟩ := pollResult_cases rx s <;> rw [h] <;> exact State.bufByte_congr rfl rfl j

/-- What a command does with an answer as long as its frame changes no other byte of BUF. -/
theorem FrameStep.bufByte_after {i : Instr} {s u t : State} {tx rx : List Byte} {f : List Byte → State → State}
    (hf : FrameStep i s u tx f) (hl : rx.length = tx.length) (hk : t.k = s.k) (j : Nat) :
    (f rx t).bufByte j = t.bufByte j ∨ (i = .rdblk ∧ j < s.len.toNat) ∨ (i = .dump ∧ j = s.k ∧ j ≤ 0x42) := by
  cases hf with
  | rdblk =>
    have hlen : (rx.drop 1).length = s.len.toNat := by simp [hl, rdblkTx]
    have hfit : s.len.toNat < 256 := s.len.isLt
    by_cases hj : j < s.len.toNat
    · exact .inr (.inl ⟨rfl, hj⟩)
    · exact .inl (bufByte_beyond_bufStoreAll rfl rfl (by rw [hlen]; exact hfit.le) (by omega))
  | dump _ hmax =>
    by_cases hj : j = s.k
    · exact .inr (.inr ⟨rfl, hj, hj ▸ hmax⟩)
    · exact .inl (bufByte_dumpResult rx (hk ▸ hmax) (hk ▸ hj))
  | firstPoll | poll => exact .inl (bufByte_pollResult rx t j)
  | _ => exact .inl (State.bufByte_congr rfl rfl j)

/-- Before its frame a micro-step changes neither BUF nor `k`. -/
theorem FrameStep.buf_before {i : Instr} {s u : State} {tx : List Byte} {f : List Byte → State → State}
    (hf : FrameStep i s u tx f) : u.buf = s.buf ∧ u.bufDraw = s.bufDraw ∧ u.k = s.k := by
  cases hf <;> exact ⟨rfl, rfl, rfl⟩

/-- Settles O43, by `exec_next`: only a frame's answer can change BUF, and a failed frame has none. -/
theorem onlyReadCommandsWriteTheirBufferBytes : Obligations.OnlyReadCommandsWriteTheirBufferBytes := by
  unfold Obligations.OnlyReadCommandsWriteTheirBufferBytes
  intro i s t j ht
  obtain ⟨-, -, -, rfl⟩ | ⟨-, -, rfl⟩ | ⟨u, tx, f, hf, rfl⟩ := exec_next ht
  · exact .inl (State.bufByte_congr rfl rfl j)
  · exact .inl (State.bufByte_congr rfl rfl j)
  · obtain ⟨hb, hd, hk⟩ := hf.buf_before
    have hx : ∀ e, (u.exchange tx e).bufByte j = s.bufByte j := fun e =>
      State.bufByte_congr (by simp [hb]) (by simp [hd]) j
    obtain ⟨rx, -, hl, hr⟩ | ⟨-, hr⟩ := u.runFrame_cases tx f <;> rw [hr]
    · rw [← hx (.frame tx rx)]
      exact hf.bufByte_after hl (by simp [hk]) j
    · rw [← hx (.fail tx)]
      exact .inl (State.bufByte_congr rfl rfl j)

end Sys2Proof.Machine
end

section
/-! SUPPORT. The radio's registers and FIFO on the reference device (10_state.md R40, R41; 92_eei_decisions.md D27). -/
namespace Sys2Proof.Machine

/-- REFDEV answers every frame and steps with it; a command leaves the radio alone after its frame. -/
theorem State.runFrame_device_reference {s : State} {r : RefDev} (hr : s.device = .reference r) (tx : List Byte)
    {f : List Byte → State → State} (hf : ∀ rx t, (f rx t).device = t.device) :
    (s.runFrame tx f).device = .reference (r.frame tx).1 := by
  have ha : s.answer tx = some (r.frame tx).2 := by simp [State.answer, hr, Device.transfer]
  rw [State.runFrame_ok f ha, hf]
  simp [State.deviceAfter, hr, Device.transfer]

theorem State.radioReg_reference {s : State} {r : RefDev} (hr : s.device = .reference r) (a : DevAddr) :
    s.radioReg a = Memory.byte0 r.regs a.toNat := by
  rw [State.radioReg, hr]

theorem State.radioFifoPos_reference {s : State} {r : RefDev} (hr : s.device = .reference r) :
    s.radioFifoPos = r.fp.toNat := by
  rw [State.radioFifoPos, hr]

/-- A write of one byte at the IRQ flags clears the bits it writes as 1 (10_state.md R40). -/
theorem RefDev.frame_clearTx (r : RefDev) : (r.frame clearTx).1 =
    { r with regs := Memory.store0 r.regs 0x12 (Memory.byte0 r.regs 0x12 &&& 0xF7) } := rfl

/-- TXCYCLE with the flag seen runs D (41_transmit_controller.md R143, R149). -/
theorem exec_txcycle_of_flag {s : State} (hts : s.ts = .awaiting) (hd : s.dly = false)
    (hf : txDoneFlag s.lastirq = true) : exec .txcycle s = .next (txD s) := by
  simp [exec, execTxcycle, hts, txAwaiting, hd, hf]

/-- D leaves REFDEV as after its clear frame. -/
theorem txD_device_reference {s : State} {r : RefDev} (hr : s.device = .reference r) :
    (txD s).device = .reference (r.frame clearTx).1 :=
  State.runFrame_device_reference (s := ({ s with ts := .done } : State).emit .done) hr clearTx fun _ _ => rfl

/-- Settles O55: D sends one write frame, and the register memory reads back around it. -/
theorem doneClearsOnlyBitThreeOnTheReferenceDevice : Obligations.DoneClearsOnlyBitThreeOnTheReferenceDevice := by
  unfold Obligations.DoneClearsOnlyBitThreeOnTheReferenceDevice
  intro s t r hr hwf hts hd hirq ht
  rw [exec_txcycle_of_flag hts hd (by simpa [txDoneFlag, Config.irqTxDone] using hirq)] at ht
  cases ht
  have hregs : Memory.wfFrom (some 0x00) 128 0 r.regs = true := by
    simp only [RefDev.wf, Bool.and_eq_true] at hwf
    exact hwf.1
  have hread : ∀ a, (txD s).radioReg a = if 0x12 = a.toNat then s.radioReg 0x12 &&& 0xF7 else s.radioReg a := by
    intro a
    rw [State.radioReg_reference (txD_device_reference hr), RefDev.frame_clearTx, Memory.byte0_store0 _ _ _ hregs,
      State.radioReg_reference hr, State.radioReg_reference hr]
    rfl
  refine ⟨hread 0x12, fun a ha => ?_⟩
  rw [hread, if_neg fun h => ha (BitVec.eq_of_toNat_eq h.symm)]

/-- A write header has bit 7 set (30_encoding.md R75). -/
theorem hdr_write_bit (a : Byte) : (hdr true a).getLsbD 7 = true := by
  simp [hdr]

/-- A header carries the low seven bits of the address (R52, R75). -/
theorem hdr_addr (w : Bool) (a : Byte) : (hdr w a).extractLsb' 0 7 = a.extractLsb' 0 7 := by
  apply BitVec.eq_of_getLsbD_eq
  intro i hi
  interval_cases i <;> cases w <;> simp [hdr]

/-- One step of the position around its 256 bytes, as the distance of another position sees it. -/
theorem fifo_distance_succ {i p : Byte} (h : i ≠ p) : (i - p).toNat = (i - (p + 1)).toNat + 1 := by
  bv_omega

/-- The bytes written at the FIFO: the registers stay, the position moves by one a byte, and the byte at `i` is the one
whose turn it was, if it had one (10_state.md R41). -/
theorem RefDev.positions_fifo_write (r : RefDev) (bs : List Byte) (hlen : bs.length ≤ 256)
    (hwf : Memory.wf (some 0x00) 256 r.fifo = true) :
    (RefDev.positions true true r 0x00 bs).1.regs = r.regs ∧
    (RefDev.positions true true r 0x00 bs).1.fp = r.fp + BitVec.ofNat 8 bs.length ∧
    ∀ i : Byte, Memory.byte0 (RefDev.positions true true r 0x00 bs).1.fifo i.toNat =
      bs.getD (i - r.fp).toNat (Memory.byte0 r.fifo i.toNat) := by
  induction bs generalizing r with
  | nil => simp [RefDev.positions]
  | cons b bs ih =>
    rw [List.length_cons] at hlen
    obtain ⟨hregs, hfp, hfifo⟩ := ih (r.memWrite 0x00 b) (by omega) (Memory.wf_store hwf r.fp.isLt)
    refine ⟨hregs, hfp.trans ?_, fun i => (hfifo i).trans ?_⟩
    · rw [List.length_cons, Nat.add_comm, BitVec.ofNat_add, ← BitVec.add_assoc]
      rfl
    · have hstore : Memory.byte0 (r.memWrite 0x00 b).fifo i.toNat =
          if r.fp.toNat = i.toNat then b else Memory.byte0 r.fifo i.toNat := Memory.byte0_store0 _ _ _ hwf
      rw [hstore, show (r.memWrite 0x00 b).fp = r.fp + 1 from rfl]
      by_cases hi : i = r.fp
      · have hlast : (i - (r.fp + 1)).toNat = 255 := by bv_omega
        rw [hlast, if_pos (by rw [hi]), List.getD_eq_default _ _ (by omega), hi, BitVec.sub_self]
        rfl
      · rw [if_neg fun h => hi (BitVec.eq_of_toNat_eq h.symm), fifo_distance_succ hi, List.getD_cons_succ]

/-- A write frame at the FIFO is a write of its bytes there (R52, R65). -/
theorem RefDev.frame_wrblkTx_fifo (r : RefDev) {a : Byte} (bs : List Byte) (ha : a.extractLsb' 0 7 = 0x00) :
    (r.frame (wrblkTx a bs)).1 = (RefDev.positions true true r 0x00 bs).1 := by
  simp only [wrblkTx, RefDev.frame, hdr_write_bit, hdr_addr, ha]
  rfl

theorem State.bufBytes_getElem? (s : State) {n j : Nat} (hj : j < n) : (s.bufBytes n)[j]? = some (s.bufByte j) := by
  simp [State.bufBytes, hj]

/-- Settles O56, by what a write of `BUF[0..N-1]` at the FIFO leaves. -/
theorem fifoAdvancesOneByteAWriteOnTheReferenceDevice : Obligations.FifoAdvancesOneByteAWriteOnTheReferenceDevice := by
  unfold Obligations.FifoAdvancesOneByteAWriteOnTheReferenceDevice
  intro s t r hr hwf ha ht
  cases ht
  have hfifo : Memory.wf (some 0x00) 256 r.fifo = true := by
    simp only [RefDev.wf, Bool.and_eq_true] at hwf
    exact hwf.2
  have hlen : (s.bufBytes s.len.toNat).length = s.len.toNat := bufBytes_length s _
  have hmax : s.len.toNat < 256 := s.len.isLt
  obtain ⟨hregs, hfp, hbytes⟩ := r.positions_fifo_write (s.bufBytes s.len.toNat) (by omega) hfifo
  have hdev : (s.runFrame (wrblkTx s.addr (s.bufBytes s.len.toNat)) fun _ t => t.complete).device =
      .reference (RefDev.positions true true r 0x00 (s.bufBytes s.len.toNat)).1 := by
    rw [← r.frame_wrblkTx_fifo _ ha]
    exact State.runFrame_device_reference hr _ fun _ _ => rfl
  refine ⟨?_, _, hdev, hregs, fun j hj => ?_⟩
  · rw [State.radioFifoPos_reference hdev, State.radioFifoPos_reference hr, hfp, hlen, BitVec.ofNat_toNat,
      BitVec.toNat_add, BitVec.setWidth_eq]
  · have hpos : (r.fp + BitVec.ofNat 8 j).toNat = (r.fp.toNat + j) % 256 := by
      rw [BitVec.toNat_add, BitVec.toNat_ofNat]
      omega
    have hdist : (r.fp + BitVec.ofNat 8 j - r.fp).toNat = j := by
      bv_omega
    rw [← hpos, hbytes, hdist, List.getD_eq_getElem?_getD, s.bufBytes_getElem? hj, Option.getD_some]

end Sys2Proof.Machine
end

section
/-! SUPPORT. The wire below the frame: bytes and bits in either order, and the frames sampled from the lines
(20_memory.md R59, 30_encoding.md R78). -/
namespace Sys2Proof.Machine

/-! ### Bytes and bits -/

/-- A byte with a bit in position 0 has no other bit. -/
theorem bitAt_zero_getElem (bit : Bool) {i : Nat} (hi : i < 8) : (bitAt 0 bit)[i] = (decide (i = 0) && bit) := by
  cases bit <;> simp [bitAt]

/-- The bits of a byte in wire order make up the byte, in either order (R59). -/
theorem byteOf_bitsOf (o : BitOrder) (b : Byte) : byteOf o (bitsOf o b) = b := by
  apply BitVec.eq_of_getLsbD_eq
  intro i hi
  interval_cases i <;> cases o <;> simp [byteOf, bitsOf, bitAt_zero_getElem]

theorem bitsOf_length (o : BitOrder) (b : Byte) : (bitsOf o b).length = 8 := by
  cases o <;> rfl

/-- One byte's bits are the first byte regrouped. -/
theorem bytesOf_bitsOf_append (o : BitOrder) (b : Byte) (bits : List Bool) :
    bytesOf o (bitsOf o b ++ bits) = byteOf o (bitsOf o b) :: bytesOf o bits := by
  cases o <;> rfl

/-- Regrouping eight bits a byte gives back the bytes whose bits they are. -/
theorem bytesOf_bytesBits (o : BitOrder) (bytes : List Byte) : bytesOf o (bytesBits o bytes) = bytes := by
  induction bytes with
  | nil => rfl
  | cons b bytes ih =>
    rw [bytesBits, List.flatMap_cons, bytesOf_bitsOf_append, byteOf_bitsOf]
    exact congrArg (b :: ·) ih

theorem bytesBits_length (o : BitOrder) (bytes : List Byte) : (bytesBits o bytes).length = 8 * bytes.length := by
  simp [bytesBits, List.length_flatMap, bitsOf_length, Nat.mul_comm]

/-! ### Frames -/

/-- The bits of a frame regroup into the bytes sent and the bytes received (R59). -/
theorem frameBytes_frameBits (o : BitOrder) {tx rx : List Byte} (h : rx.length = tx.length) :
    frameBytes o (frameBits o tx rx) = (tx, rx) := by
  have hlen : (bytesBits o rx).length = (bytesBits o tx).length := by rw [bytesBits_length, bytesBits_length, h]
  rw [frameBytes, frameBits, List.map_fst_zip hlen.ge, List.map_snd_zip hlen.le, bytesOf_bytesBits, bytesOf_bytesBits]

/-- A frame with a byte each way has a bit on the wire. -/
theorem frameBits_ne_nil (o : BitOrder) {tx rx : List Byte} (hne : tx ≠ []) (h : rx.length = tx.length) :
    frameBits o tx rx ≠ [] := by
  rw [← List.length_pos_iff] at hne ⊢
  rw [frameBits, List.length_zip, bytesBits_length, bytesBits_length]
  omega

/-- The sampler takes one bit each way at every rising edge and closes the frame where chip select falls back (R78). -/
theorem sampleFrames_bitPins {active last m n : Bool} {acc bits : List (Bool × Bool)} (pins : List PinSample)
    (hne : acc ++ bits ≠ []) :
    sampleFrames active last acc (bits.flatMap (bitPins active) ++ ⟨!active, false, m, n⟩ :: pins) =
      (acc ++ bits) :: sampleFrames active false [] pins := by
  induction bits generalizing last acc with
  | nil =>
    rw [List.append_nil] at hne ⊢
    simp [sampleFrames, hne]
  | cons b bits ih =>
    rw [← List.singleton_append, ← List.append_assoc] at hne ⊢
    rw [← ih (last := true) hne]
    simp [bitPins, sampleFrames]

/-- One frame's pins: its bits, and the sampler ready for the next frame. -/
theorem sampleFrames_framePins (p : Params) (idle : Bool × Bool) {tx rx : List Byte} (pins : List PinSample)
    (hne : tx ≠ []) (h : rx.length = tx.length) :
    sampleFrames p.csActive false [] (framePins p idle tx rx ++ pins) =
      frameBits p.bitOrder tx rx :: sampleFrames p.csActive false [] pins := by
  rw [framePins, List.append_assoc, List.singleton_append]
  exact sampleFrames_bitPins pins (frameBits_ne_nil p.bitOrder hne h)

/-- The decoder reads the first frame off the lines and goes on with the rest. -/
theorem wireFrames_framePins (p : Params) (idle : Bool × Bool) {tx rx : List Byte} (pins : List PinSample)
    (hne : tx ≠ []) (h : rx.length = tx.length) :
    wireFrames p (framePins p idle tx rx ++ pins) = (tx, rx) :: wireFrames p pins := by
  rw [wireFrames, sampleFrames_framePins p idle pins hne h, List.map_cons, frameBytes_frameBits p.bitOrder h]
  rfl

/-- Settles O5, by induction on the frames: the decoder reads them off one by one. -/
theorem wireDecoderRecoversEveryFrame : Obligations.WireDecoderRecoversEveryFrame := by
  unfold Obligations.WireDecoderRecoversEveryFrame
  intro p frames hframes
  induction frames with
  | nil => rfl
  | cons f frames ih =>
    obtain ⟨⟨hne, hlen⟩, hrest⟩ := List.forall_mem_cons.mp hframes
    rw [List.flatMap_cons, wireFrames_framePins p f.2 _ hne hlen, ih hrest, List.map_cons]

end Sys2Proof.Machine
end

section
/-! SUPPORT. What no micro-step of a command writes (20_memory.md R55). -/
namespace Sys2Proof.Machine

/-- The part of the state that no command writes: the operands ADDR and LEN, CMD, OVR, READY, the reset phase and lines,
the build, the host port, and the model's own data but the radio's. -/
def State.unwritten (s : State) : Byte × Byte × Opcode × Bool × Bool × ResetPhase × Bool × Bool × Params × Byte ×
    Nat × List Bool × List Turn × Nat × Bool :=
  (s.addr, s.len, s.opLast, s.stOvr, s.stReady, s.rs, s.rstDev, s.rstN, s.params, s.hRdata, s.bufDraw, s.inits, s.turns,
    s.tick, s.lowHeld)

theorem State.unwritten_exchange (s : State) (tx : List Byte) (e : HistEntry) :
    (s.exchange tx e).unwritten = s.unwritten := rfl

theorem State.unwritten_raise (s : State) (e : ErrCode) : (s.raise e).unwritten = s.unwritten := rfl

/-- Entering a transmit state, its event and its counters write none of it. -/
theorem FrameStep.unwritten_before {i : Instr} {s u : State} {tx : List Byte} {f : List Byte → State → State}
    (hf : FrameStep i s u tx f) : u.unwritten = s.unwritten := by
  cases hf <;> rfl

/-- What a command does with the bytes received writes none of it. -/
theorem FrameStep.unwritten_after {i : Instr} {s u : State} {tx : List Byte} {f : List Byte → State → State}
    (hf : FrameStep i s u tx f) (rx : List Byte) (t : State) : (f rx t).unwritten = t.unwritten := by
  cases hf with
  | dump => obtain ⟨-, hd⟩ | ⟨-, hd⟩ := dumpResult_cases rx t <;> rw [hd] <;> rfl
  | firstPoll | poll => obtain ⟨-, hp⟩ | ⟨-, -, hp⟩ | ⟨-, -, hp⟩ := pollResult_cases rx t <;> rw [hp] <;> rfl
  | _ => rfl

/-- A micro-step of a command writes none of it, whether its frame succeeds or fails. -/
theorem exec_unwritten {i : Instr} {s t : State} (h : exec i s = .next t) : t.unwritten = s.unwritten := by
  obtain ⟨-, -, -, rfl⟩ | ⟨-, -, rfl⟩ | ⟨u, tx, f, hf, rfl⟩ := exec_next h
  · rfl
  · rfl
  · obtain ⟨rx, -, -, hr⟩ | ⟨-, hr⟩ := u.runFrame_cases tx f <;> rw [hr]
    · rw [hf.unwritten_after, State.unwritten_exchange, hf.unwritten_before]
    · rw [State.unwritten_raise, State.unwritten_exchange, hf.unwritten_before]

/-- Settles O41, field by field of what `exec_unwritten` says. -/
theorem noCommandWritesItsOperands : Obligations.NoCommandWritesItsOperands := by
  unfold Obligations.NoCommandWritesItsOperands
  intro i s t h
  simpa only [State.unwritten, Prod.mk.injEq] using exec_unwritten h

/-- ADDR after any command is ADDR before it (20_memory.md R55). -/
theorem exec_addr {i : Instr} {s t : State} (h : exec i s = .next t) : t.addr = s.addr :=
  (noCommandWritesItsOperands i s t h).1

end Sys2Proof.Machine
end

section
/-! SUPPORT. A word written to the reference device and read back (20_memory.md R61; 92_eei_decisions.md D27). -/
namespace Sys2Proof.Machine

/-- REFDEV answers every frame (92_eei_decisions.md D27). -/
theorem State.answer_reference {s : State} {r : RefDev} (hr : s.device = .reference r) (tx : List Byte) :
    s.answer tx = some (r.frame tx).2 := by
  simp [State.answer, hr, Device.transfer]

/-- A read header has bit 7 clear (30_encoding.md R75). -/
theorem hdr_read_bit (a : Byte) : (hdr false a).getLsbD 7 = false := by
  simp [hdr]

/-- A read of an address that is neither the FIFO nor the IRQ flags answers its register and moves nothing. -/
theorem RefDev.memRead_register (r : RefDev) {p : DevAddr} (h0 : p ≠ 0x00) (h12 : p ≠ 0x12) :
    r.memRead p = (r, Memory.byte0 r.regs p.toNat) := by
  rw [RefDev.memRead, if_neg h0, if_neg h12]

/-- A write at such an address puts its byte into that register. -/
theorem RefDev.memWrite_register_regs (r : RefDev) {p : DevAddr} (v : Byte) (h0 : p ≠ 0x00) (h12 : p ≠ 0x12) :
    (r.memWrite p v).regs = Memory.store0 r.regs p.toNat v := by
  rw [RefDev.memWrite, if_neg h0, if_neg h12]
  split <;> rfl

/-- The registers after a write at such an address: the byte written there, and every other register as before. -/
theorem RefDev.byte0_memWrite_register {r : RefDev} (hwf : r.wf = true) {p : DevAddr} (q : DevAddr) (v : Byte)
    (h0 : p ≠ 0x00) (h12 : p ≠ 0x12) :
    Memory.byte0 (r.memWrite p v).regs q.toNat = if p = q then v else Memory.byte0 r.regs q.toNat := by
  simp only [RefDev.wf, Bool.and_eq_true] at hwf
  simp only [r.memWrite_register_regs v h0 h12, Memory.byte0_store0 _ _ _ hwf.1, BitVec.toNat_inj]

/-- Away from the FIFO, the two positions of a word written are its address and the next, the low byte first (R57). -/
theorem RefDev.frame_wrwTx (r : RefDev) {a : Byte} {p : DevAddr} (v : BitVec 16) (hp : p = a.extractLsb' 0 7)
    (h0 : p ≠ 0x00) : (r.frame (wrwTx a v)).1 = (r.memWrite p (wordLo v)).memWrite (p + 1) (wordHi v) := by
  simp only [wrwTx, RefDev.frame, hdr_write_bit, hdr_addr, ← hp, beq_false_of_ne h0]
  rfl

/-- A word read where neither position is the FIFO or the IRQ flags answers the two registers, in order (R56). -/
theorem RefDev.frame_rdwTx (r : RefDev) {a : Byte} {p : DevAddr} (hp : p = a.extractLsb' 0 7)
    (h0 : p ≠ 0x00) (h12 : p ≠ 0x12) (h0' : p + 1 ≠ 0x00) (h12' : p + 1 ≠ 0x12) :
    (r.frame (rdwTx a)).2 = [0x00, Memory.byte0 r.regs p.toNat, Memory.byte0 r.regs (p + 1).toNat] := by
  simp only [rdwTx, RefDev.frame, RefDev.positions, hdr_read_bit, hdr_addr, ← hp, beq_false_of_ne h0,
    Bool.false_eq_true, if_false, r.memRead_register h0 h12, r.memRead_register h0' h12']

/-- RDW puts the first byte received into DATA_HI and the second into DATA_LO (R56, 40_register_bus.md R102). -/
theorem exec_rdw_data {s t : State} {rx : List Byte} (ha : s.answer (rdwTx s.addr) = some rx)
    (h : exec .rdw s = .next t) : t.dataHi = rxByte rx 1 ∧ t.dataLo = rxByte rx 2 := by
  cases h
  rw [State.runFrame_ok _ ha]
  exact ⟨wordHi_wireWord _ _, wordLo_wireWord _ _⟩

/-- Settles O54: WRW leaves the low byte at the address and the high byte at the next one, and RDW takes the byte at the
address for the high one. -/
theorem wordComesBackSwappedOnTheReferenceDevice : Obligations.WordComesBackSwappedOnTheReferenceDevice := by
  unfold Obligations.WordComesBackSwappedOnTheReferenceDevice
  intro s t u r p hr hwf hp h0 h12 h0' h12' ht hu
  have hpt : p = t.addr.extractLsb' 0 7 := by rw [hp, exec_addr ht]
  cases ht
  have hdev := State.runFrame_device_reference hr (wrwTx s.addr (hostWord s.dataHi s.dataLo))
    (f := fun _ t => t.complete) fun _ _ => rfl
  rw [r.frame_wrwTx _ hp h0, wordLo_hostWord, wordHi_hostWord] at hdev
  obtain ⟨hhi, hlo⟩ := exec_rdw_data (State.answer_reference hdev _) hu
  have hnext : p + 1 ≠ p := by bv_omega
  have hwf' : (r.memWrite p s.dataLo).wf = true := RefDev.memWrite_wf p _ hwf
  rw [RefDev.frame_rdwTx _ hpt h0 h12 h0' h12', RefDev.byte0_memWrite_register hwf' _ _ h0' h12',
    RefDev.byte0_memWrite_register hwf' _ _ h0' h12', RefDev.byte0_memWrite_register hwf _ _ h0 h12,
    if_neg hnext, if_pos rfl, if_pos rfl] at hhi hlo
  exact ⟨hhi, hlo⟩

end Sys2Proof.Machine
end

section
/-! SUPPORT. Command bytes and frame headers (30_encoding.md R71-R75), and CMD writes by the low half alone. -/
namespace Sys2Proof

/-- A byte decodes to a command exactly when its low half is the command's opcode (30_encoding.md R73). -/
theorem decodeByte_eq_some_iff {b : Byte} {i : Instr} : decodeByte b = some i ↔ opField b = opcodeOf i := by
  rw [← decodeOp_opField]
  refine ⟨opcodeOf_of_decodeOp, fun h => ?_⟩
  rw [h, decodeOp_opcodeOf]

/-- A byte string decodes to the command of its first byte, and the other bytes follow it. -/
theorem decode_cons_eq_ok_iff {b : Byte} {i : Instr} {rest r : List Byte} :
    decode (b :: rest) = .ok (i, r) ↔ opField b = opcodeOf i ∧ r = rest := by
  rw [← decodeByte_eq_some_iff, decode]
  cases decodeByte b <;> simp [eq_comm]

/-- Decoding the encoding of a command gives it back, with the bytes that follow (R71). -/
theorem decode_encode_append (i : Instr) (rest : List Byte) : decode (encode i ++ rest) = .ok (i, rest) :=
  decode_cons_eq_ok_iff.mpr ⟨opField_opByte _, rfl⟩

/-- An opcode's byte is refused exactly when no command has the opcode (R74). -/
theorem decode_opByte_eq_error_iff (op : Opcode) :
    decode [opByte op] = .error (.reservedOp op) ↔ decodeOp op = none := by
  simp only [decode, ← decodeOp_opField, opField_opByte]
  cases decodeOp op <;> simp

/-- The reserved opcodes (R71). -/
theorem decodeOp_eq_none_iff (op : Opcode) : decodeOp op = none ↔
    op = 0x0 ∨ op = 0x4 ∨ op = 0xB ∨ op = 0xC ∨ op = 0xD ∨ op = 0xE ∨ op = 0xF := by
  revert op; decide

/-- Masking the high half leaves the opcode field (R73). -/
theorem opField_and_0x0F (w : Byte) : opField (w &&& 0x0F) = opField w := by
  apply BitVec.eq_of_getLsbD_eq
  intro i hi
  interval_cases i <;> simp [opField]

/-- Decoding looks at the opcode field of the first byte alone (R73). -/
theorem decode_cons_congr {b c : Byte} (rest : List Byte) (h : opField b = opField c) :
    decode (b :: rest) = decode (c :: rest) := by
  simp only [decode, ← decodeOp_opField, h]

/-- Settles O3, by the opcode field of the byte. -/
theorem decodeAndEncodeAgree : Obligations.DecodeAndEncodeAgree := by
  unfold Obligations.DecodeAndEncodeAgree
  exact fun i rest => ⟨decode_encode_append i rest, fun b r => decode_cons_eq_ok_iff⟩

/-- Settles O1: the bytes are the nine encodings, and the other opcodes decode to nothing. -/
theorem commandBytesDecodeByTheOpcodeMap : Obligations.CommandBytesDecodeByTheOpcodeMap := by
  unfold Obligations.CommandBytesDecodeByTheOpcodeMap
  have hbyte : ∀ i, decode (encode i) = .ok (i, []) := fun i => by simpa using decode_encode_append i []
  exact ⟨hbyte .rdb, hbyte .rdw, hbyte .rdblk, hbyte .wrb, hbyte .wrw, hbyte .wrblk, hbyte .dump, hbyte .config,
    hbyte .txcycle, fun op => (decode_opByte_eq_error_iff op).trans (decodeOp_eq_none_iff op)⟩

end Sys2Proof

namespace Sys2Proof.Machine

/-- A CMD write acts by the opcode field of its byte alone (R73). -/
theorem State.hostWrite_cmd_congr {w w' : Byte} (s : State) (h : opField w = opField w') :
    s.hostWrite 0x000 w = s.hostWrite 0x000 w' := by
  rw [State.hostWrite, State.hostWrite, State.writeReg_cmd, State.writeReg_cmd, h]

/-- An idle block out of reset accepts a CMD write (10_state.md R25). -/
theorem State.hostWrite_cmd_of_idle {s : State} (w : Byte) (hn : s.rstN = true) (hb : s.stBusy = false) :
    s.hostWrite 0x000 w = s.accept (opField w) := by
  rw [s.hostWrite_of_rstN _ _ hn, State.writeReg_cmd, if_neg (by simp [hb])]

/-- Acceptance leaves the opcode in `op_last`, whatever becomes of the command (10_state.md R22). -/
@[simp] theorem State.accept_opLast (op : Opcode) (s : State) : (s.accept op).opLast = op := by
  obtain ⟨-, h⟩ | ⟨-, -, h⟩ | ⟨-, -, h⟩ := s.accept_cases op <;> rw [h]

/-- Settles O2: decoding and a CMD write look at the opcode field alone, which the mask leaves. -/
theorem commandBitsSevenToFourAreIgnored : Obligations.CommandBitsSevenToFourAreIgnored := by
  unfold Obligations.CommandBitsSevenToFourAreIgnored
  refine ⟨fun w rest => decode_cons_congr rest (opField_and_0x0F w).symm, by decide,
    fun w s => s.hostWrite_cmd_congr (opField_and_0x0F w).symm, fun w s hn hb => ?_⟩
  rw [State.hostWrite_cmd_of_idle w hn hb, State.accept_opLast]
  rfl

/-- A write header is the address with bit 7 set, masked first or not (30_encoding.md R75). -/
theorem hdr_write_eq_or (a : Byte) : hdr true a = a ||| 0x80 := by
  apply BitVec.eq_of_getLsbD_eq
  intro i hi
  interval_cases i <;> simp [hdr]

/-- Settles O4: the header's two forms, and the bits the radio reads back from it. -/
theorem headerCarriesAddressAndDirection : Obligations.HeaderCarriesAddressAndDirection := by
  unfold Obligations.HeaderCarriesAddressAndDirection
  exact fun a data => ⟨BitVec.or_zero, hdr_write_eq_or a, rfl, hdr_read_bit a, hdr_write_bit a, hdr_addr false a,
    hdr_addr true a⟩

/-- A step with the host loop's turn is a round of the loop (30_encoding.md R82). -/
theorem step_wait {s : State} {gaps : List Nat} (h : s.turn = .wait gaps) :
    step s = .next (s.begin.hostWait gaps) := by
  simp [step, takeTurn, h]

/-- A round of `wait` is a read of STATUS that also sets the turns to come (R82). -/
theorem State.hostWait_eq (s : State) (gaps : List Nat) : s.hostWait gaps =
    { s with hRdata := s.statusByte, turns := if s.stBusy then waitTurns gaps ++ s.turns else s.turns } := by
  rw [State.hostWait, State.readReg_status_busy]
  rfl

/-- Settles O57, by the level of BUSY that the round reads. -/
theorem waitReadsStatusUntilTheBlockIsIdle : Obligations.WaitReadsStatusUntilTheBlockIsIdle := by
  unfold Obligations.WaitReadsStatusUntilTheBlockIsIdle
  intro s gaps rest ht
  obtain ⟨hturn, rfl⟩ := State.turn_of_turns ht
  rw [step_wait hturn, State.hostWait_eq]
  refine ⟨fun hb => ?_, fun hb => ?_⟩
  · rw [if_pos (show s.begin.stBusy = true from hb), waitTurns, List.append_assoc]
    rfl
  · rw [if_neg (by simp [hb])]
    rfl

end Sys2Proof.Machine
end

section
/-! SUPPORT. The expansion of an assembler term: its host writes, and the wait for the command it starts
(30_encoding.md R82). -/
namespace Sys2Proof.Machine

/-! ### Runs of host writes -/

/-- `HostWrites ws s t`: the turns `ws` are host writes, and one after the other they take `s` to `t`. -/
inductive HostWrites : List Turn → State → State → Prop where
  | nil (s : State) : HostWrites [] s s
  | cons {a : HostAddr} {v : Byte} {ws : List Turn} {s u t : State} (hw : s.hostWrite a v = u)
      (hws : HostWrites ws u t) : HostWrites (.write a v :: ws) s t

namespace HostWrites

theorem single {a : HostAddr} {v : Byte} {s t : State} (h : s.hostWrite a v = t) : HostWrites [.write a v] s t :=
  .cons h (.nil t)

theorem append {ws ws' : List Turn} {s t u : State} (h : HostWrites ws s t) (h' : HostWrites ws' t u) :
    HostWrites (ws ++ ws') s u := by
  induction h with
  | nil => exact h'
  | cons hw _ ih => exact .cons hw (ih h')

/-- The first writes of a run are a run. -/
theorem take {ws : List Turn} {s t : State} (h : HostWrites ws s t) (n : Nat) : ∃ u, HostWrites (ws.take n) s u := by
  induction h generalizing n with
  | nil s => exact ⟨s, by simpa using HostWrites.nil s⟩
  | @cons _ _ _ s _ _ hw _ ih =>
    cases n with
    | zero => exact ⟨s, .nil s⟩
    | succ n =>
      obtain ⟨u, hu⟩ := ih n
      exact ⟨u, .cons hw hu⟩

/-- Host writes neither read nor write what the beginning of a step changes. -/
theorem withTurn {ws : List Turn} {s t : State} (h : HostWrites ws s t) (ts : List Turn) (n : Nat) (e : Bool) :
    HostWrites ws (s.withTurn ts n e) (t.withTurn ts n e) := by
  induction h with
  | nil => exact .nil _
  | cons hw _ ih => exact .cons (by rw [State.hostWrite_withTurn, hw]) ih

/-- Host writes whose turns are next take one step each and leave the turns behind them. -/
theorem stepN_eq {ws rest : List Turn} {s t : State} (h : HostWrites ws s t) (hs : s.turns = ws ++ rest) :
    ∃ n e, stepN ws.length s = .next (t.withTurn rest n e) := by
  induction ws generalizing s t with
  | nil =>
    cases h
    exact ⟨s.tick, s.evtValid, by rw [← List.nil_append rest, ← hs]; rfl⟩
  | cons w ws ih =>
    cases h with
    | @cons a v _ _ u _ hw hws =>
      obtain ⟨hturn, hrest⟩ := State.turn_of_turns (List.cons_append ▸ hs)
      have hu : s.begin.hostWrite a v = u.withTurn (ws ++ rest) (s.tick + 1) false := by
        rw [s.begin_eq_withTurn, State.hostWrite_withTurn, hw, hrest]
      obtain ⟨n, e, hn⟩ := ih (hws.withTurn (ws ++ rest) (s.tick + 1) false) rfl
      exact ⟨n, e, by rw [List.length_cons, stepN_succ _ (step_write hturn), hu, hn]; rfl⟩

/-- Until the last of its writes is done, a run of host writes has a turn listed. -/
theorem turns_ne_nil {ws rest : List Turn} {s t u : State} {n : Nat} (h : HostWrites ws s t)
    (hs : s.turns = ws ++ rest) (hn : n < ws.length) (hu : stepN n s = .next u) : u.turns ≠ [] := by
  obtain ⟨v, hv⟩ := h.take n
  obtain ⟨m, e, hm⟩ := hv.stepN_eq (rest := ws.drop n ++ rest) (by rw [hs, ← List.append_assoc, List.take_append_drop])
  rw [List.length_take_of_le hn.le, hu] at hm
  cases hm
  have hlen : 0 < (ws.drop n).length := by rw [List.length_drop]; omega
  exact List.append_ne_nil_of_left_ne_nil (List.length_pos_iff.mp hlen) rest

end HostWrites

/-! ### The writes of an expansion -/

/-- An idle block takes a byte into BUF from the host (10_state.md R32). -/
theorem State.hostWrite_buf {s : State} {i : Nat} (v : Byte) (hn : s.rstN = true) (hb : s.stBusy = false)
    (hi : i < Config.bufSize) :
    s.hostWrite (BitVec.ofNat 9 (0x100 + i)) v = { s with buf := bufStore s.buf i v } := by
  have hi' : i < 256 := hi
  have ha : (BitVec.ofNat 9 (0x100 + i)).toNat = 0x100 + i := by
    rw [BitVec.toNat_ofNat]
    omega
  rw [s.hostWrite_of_rstN _ _ hn, s.writeReg_buf v (by omega), if_neg (by simp [hb]), ha, Nat.add_sub_cancel_left]

/-- The host writes that fill BUF store the bytes one after the other (30_encoding.md R82). -/
theorem hostWrites_bufWrites {s : State} {i : Nat} {bytes : List Byte} (hn : s.rstN = true) (hb : s.stBusy = false)
    (hfit : i + bytes.length ≤ Config.bufSize) :
    HostWrites (bufWrites i bytes) s { s with buf := bufStoreAll s.buf i bytes } := by
  induction bytes generalizing i s with
  | nil => exact .nil s
  | cons v bytes ih =>
    rw [List.length_cons] at hfit
    exact .cons (s.hostWrite_buf v hn hb (by omega)) (ih hn hb (by omega))

/-- What a block stored at the start of BUF reads as. -/
theorem bufBytes_of_bufStoreAll {s : State} {m : Memory} {bytes : List Byte} (hb : s.buf = bufStoreAll m 0 bytes)
    (hfit : 0 + bytes.length ≤ Config.bufSize) : s.bufBytes bytes.length = bytes := by
  refine List.ext_getElem (bufBytes_length s _) fun j _ hj => ?_
  simp [State.bufBytes, State.bufByte, hb, bufStoreAll_lookup m 0 j bytes hfit, hj]

/-- A word whose halves the host wrote is the word (30_encoding.md R77). -/
theorem hostWord_wordHi_wordLo (v : BitVec 16) : hostWord (wordHi v) (wordLo v) = v := by
  apply BitVec.eq_of_getLsbD_eq
  intro i hi
  interval_cases i <;> simp [hostWord, wordHi, wordLo]

/-- BUF holds every block that LEN can count (10_state.md R24, R32). -/
theorem length_le_bufSize {bytes : List Byte} (h : bytes.length ≤ Config.maxPayload) :
    0 + bytes.length ≤ Config.bufSize := by
  rw [Nat.zero_add]
  exact h.trans (by decide)

/-- A block's length is held in LEN (10_state.md R24). -/
theorem toNat_ofNat_length {bytes : List Byte} (h : bytes.length ≤ Config.maxPayload) :
    (BitVec.ofNat 8 bytes.length).toNat = bytes.length := by
  have : bytes.length ≤ 255 := h
  rw [BitVec.toNat_ofNat]
  omega

end Sys2Proof.Machine

namespace Sys2Proof

open Machine

/-- The operands of a term in their registers and BUF (R81, R82), the rest of the state as it was. -/
def AsmCmd.load (s : State) : AsmCmd → State
  | .rdb a => { s with addr := a }
  | .rdw a => { s with addr := a }
  | .rdblk a n => { s with addr := a, len := n }
  | .wrb a v => { s with addr := a, dataLo := v }
  | .wrw a v => { s with addr := a, dataLo := wordLo v, dataHi := wordHi v }
  | .wrblk a bytes =>
    { s with addr := a, len := BitVec.ofNat 8 bytes.length, buf := bufStoreAll s.buf 0 bytes }
  | .dump => s
  | .config => s
  | .txcycle bytes => { s with len := BitVec.ofNat 8 bytes.length, buf := bufStoreAll s.buf 0 bytes }

namespace AsmCmd

@[simp] theorem load_rs (c : AsmCmd) (s : State) : (c.load s).rs = s.rs := by cases c <;> rfl

@[simp] theorem load_rstN (c : AsmCmd) (s : State) : (c.load s).rstN = s.rstN := by cases c <;> rfl

@[simp] theorem load_stBusy (c : AsmCmd) (s : State) : (c.load s).stBusy = s.stBusy := by cases c <;> rfl

theorem load_stOvr (c : AsmCmd) (s : State) : (c.load s).stOvr = s.stOvr := by cases c <;> rfl

theorem load_history (c : AsmCmd) (s : State) : (c.load s).history = s.history := by cases c <;> rfl

end AsmCmd

end Sys2Proof

namespace Sys2Proof.Machine

section IdleBlock

variable {s : State} {v : Byte} (hn : s.rstN = true) (hb : s.stBusy = false)

include hn hb

/-- An idle block's operand registers take a host write each (10_state.md R23, R24, R26). -/
theorem State.hostWrite_addr : s.hostWrite 0x001 v = { s with addr := v } :=
  have ⟨h, _⟩ := idleHostWritesStoreTheByte s v hn hb
  h

theorem State.hostWrite_len : s.hostWrite 0x002 v = { s with len := v } :=
  have ⟨_, h, _⟩ := idleHostWritesStoreTheByte s v hn hb
  h

theorem State.hostWrite_dataLo : s.hostWrite 0x003 v = { s with dataLo := v } :=
  have ⟨_, _, h, _⟩ := idleHostWritesStoreTheByte s v hn hb
  h

theorem State.hostWrite_dataHi : s.hostWrite 0x004 v = { s with dataHi := v } :=
  have ⟨_, _, _, h, _⟩ := idleHostWritesStoreTheByte s v hn hb
  h

/-- The write that starts a command is its acceptance (10_state.md R25, 30_encoding.md R82). -/
theorem hostWrites_startWrite {i : Instr} : HostWrites [startWrite i] s (s.accept (opcodeOf i)) :=
  .single (by rw [State.hostWrite_cmd_of_idle _ hn hb, opField_opByte])

end IdleBlock

/-- The host writes of a term load its operands and start its command (30_encoding.md R82). -/
theorem hostWrites_load {s : State} (c : AsmCmd) (hwf : c.wellFormed = true) (hn : s.rstN = true)
    (hb : s.stBusy = false) : HostWrites (hostWrites c) s ((c.load s).accept (opcodeOf c.instr)) := by
  have hstart : HostWrites [startWrite c.instr] (c.load s) ((c.load s).accept (opcodeOf c.instr)) :=
    hostWrites_startWrite (by simp [hn]) (by simp [hb])
  cases c with
  | rdb | rdw => exact .cons (State.hostWrite_addr hn hb) hstart
  | rdblk => exact .cons (State.hostWrite_addr hn hb) (.cons (State.hostWrite_len hn hb) hstart)
  | wrb => exact .cons (State.hostWrite_addr hn hb) (.cons (State.hostWrite_dataLo hn hb) hstart)
  | wrw =>
    exact .cons (State.hostWrite_addr hn hb) (.cons (State.hostWrite_dataLo hn hb)
      (.cons (State.hostWrite_dataHi hn hb) hstart))
  | wrblk a bytes =>
    have hfill := hostWrites_bufWrites (s := { s with addr := a, len := BitVec.ofNat 8 bytes.length }) hn hb
      (length_le_bufSize (of_decide_eq_true hwf))
    exact .cons (State.hostWrite_addr hn hb) (.cons (State.hostWrite_len hn hb) (hfill.append hstart))
  | txcycle bytes =>
    have hfill := hostWrites_bufWrites (s := { s with len := BitVec.ofNat 8 bytes.length }) hn hb
      (length_le_bufSize (of_decide_eq_true hwf))
    exact .cons (State.hostWrite_len hn hb) (hfill.append hstart)
  | dump | config => exact hstart

/-- A ready block accepts every command (10_state.md R25). -/
theorem State.accept_of_ready {s : State} (i : Instr) (hp : s.rs = .ready) : s.accept (opcodeOf i) =
    { s with opLast := opcodeOf i, stDone := false, stErr := false, errcode := .noError, stBusy := true,
             cur := some (opcodeOf i), k := 0 } := by
  simp [State.accept, hp]

/-- Settles O52, by `hostWrites_load`: the writes take one step each, and the operands are where they were loaded. -/
theorem expansionSetsUpAndStartsTheCommand : Obligations.ExpansionSetsUpAndStartsTheCommand := by
  unfold Obligations.ExpansionSetsUpAndStartsTheCommand
  intro c gaps s hwf hn hp hb hs
  obtain ⟨n, e, ht⟩ := (hostWrites_load c hwf hn hb).stepN_eq hs
  rw [State.accept_of_ready _ (by simp [hp])] at ht
  refine ⟨_, ht, rfl, rfl, rfl, c.load_stOvr s, c.load_history s, rfl, ?_⟩
  cases c with
  | rdb | rdw => rfl
  | rdblk | wrb => exact ⟨rfl, rfl⟩
  | wrw a v => exact ⟨rfl, hostWord_wordHi_wordLo v⟩
  | wrblk a bytes =>
    have hlen := of_decide_eq_true hwf
    exact ⟨rfl, toNat_ofNat_length hlen, bufBytes_of_bufStoreAll rfl (length_le_bufSize hlen)⟩
  | txcycle bytes =>
    have hlen := of_decide_eq_true hwf
    exact ⟨toNat_ofNat_length hlen, bufBytes_of_bufStoreAll rfl (length_le_bufSize hlen)⟩
  | dump | config => trivial

end Sys2Proof.Machine
end

section
/-! SUPPORT. A started command runs on or has completed, and the host waits for it (30_encoding.md R82). -/
namespace Sys2Proof.Machine

/-! ### A command runs on or ends -/

/-- From `s` to `t` the command in progress runs on, or it ends with BUSY 0 and DONE 1 (40_register_bus.md R115,
60_exceptions.md R172). -/
def State.RunsOrEnds (s t : State) : Prop :=
  (t.stBusy = s.stBusy ∧ t.cur = s.cur) ∨ (t.stBusy = false ∧ t.stDone = true ∧ t.cur = none)

/-- Only BUSY and `cur` before count. -/
theorem State.RunsOrEnds.congr {s u t : State} (h : u.RunsOrEnds t) (hb : u.stBusy = s.stBusy) (hc : u.cur = s.cur) :
    s.RunsOrEnds t := by
  rwa [State.RunsOrEnds, ← hb, ← hc]

/-- An event, a transmit state or a counter ends no command. -/
theorem FrameStep.running_before {i : Instr} {s u : State} {tx : List Byte} {f : List Byte → State → State}
    (hf : FrameStep i s u tx f) : u.stBusy = s.stBusy ∧ u.cur = s.cur := by
  cases hf <;> exact ⟨rfl, rfl⟩

/-- What a command does with the bytes received ends it by completion or by a poll's TIMEOUT, or leaves it running. -/
theorem FrameStep.runsOrEnds_after {i : Instr} {s u : State} {tx : List Byte} {f : List Byte → State → State}
    (hf : FrameStep i s u tx f) (rx : List Byte) (t : State) : t.RunsOrEnds (f rx t) := by
  cases hf with
  | rdb | rdw | rdblk | wrb | wrw | wrblk | configPa => exact .inr ⟨rfl, rfl, rfl⟩
  | dump =>
    obtain ⟨-, hd⟩ | ⟨-, hd⟩ := dumpResult_cases rx t <;> rw [hd]
    · exact .inr ⟨rfl, rfl, rfl⟩
    · exact .inl ⟨rfl, rfl⟩
  | firstPoll | poll =>
    obtain ⟨-, hp⟩ | ⟨-, -, hp⟩ | ⟨-, -, hp⟩ := pollResult_cases rx t <;> rw [hp]
    · exact .inl ⟨rfl, rfl⟩
    · exact .inr ⟨rfl, rfl, rfl⟩
    · exact .inl ⟨rfl, rfl⟩
  | _ => exact .inl ⟨rfl, rfl⟩

/-- After a micro-step its command runs on or has ended, whatever the radio answered. -/
theorem exec_runsOrEnds {i : Instr} {s t : State} (h : exec i s = .next t) : s.RunsOrEnds t := by
  obtain ⟨-, -, -, rfl⟩ | ⟨-, -, rfl⟩ | ⟨u, tx, f, hf, rfl⟩ := exec_next h
  · exact .inl ⟨rfl, rfl⟩
  · exact .inr ⟨rfl, rfl, rfl⟩
  · obtain ⟨hb, hc⟩ := hf.running_before
    obtain ⟨rx, -, -, hr⟩ | ⟨-, hr⟩ := u.runFrame_cases tx f <;> rw [hr]
    · exact (hf.runsOrEnds_after rx _).congr hb hc
    · exact .inr ⟨rfl, rfl, rfl⟩

/-! ### The wait -/

/-- A ready block was given command `i`, which runs still or has completed. -/
structure State.Started (i : Instr) (s : State) : Prop where
  rstN : s.rstN = true
  ready : s.rs = .ready
  opLast : s.opLast = opcodeOf i
  runs_or_done : (s.stBusy = true ∧ s.cur = some (opcodeOf i)) ∨ (s.stBusy = false ∧ s.stDone = true ∧ s.cur = none)

/-- Acceptance by a ready block starts the command (10_state.md R25). -/
theorem State.started_accept {s : State} (i : Instr) (hn : s.rstN = true) (hp : s.rs = .ready) :
    (s.accept (opcodeOf i)).Started i := by
  rw [State.accept_of_ready i hp]
  exact ⟨hn, hp, rfl, .inl ⟨rfl, rfl⟩⟩

theorem State.Started.withTurn {i : Instr} {s : State} (h : s.Started i) (ts : List Turn) (n : Nat) (e : Bool) :
    (s.withTurn ts n e).Started i := { h with }

/-- The block's turn takes a started command on, or does nothing once it has completed
(70_reset_and_hazards.md R204). -/
theorem State.Started.of_blockStep {i : Instr} {s t : State} (h : s.Started i) (ht : blockStep s = .next t) :
    t.Started i ∧ t.turns = s.turns ∧ (s.stBusy = false → t = s) := by
  obtain ⟨hb, hc⟩ | ⟨-, -, hc⟩ := h.runs_or_done
  · rw [blockStep_running h.rstN h.ready hc (decodeOp_opcodeOf i)] at ht
    have hu := exec_unwritten ht
    simp only [State.unwritten, Prod.mk.injEq] at hu
    obtain ⟨-, -, hop, -, -, hrs, -, hn, -, -, -, -, hturns, -, -⟩ := hu
    refine ⟨⟨hn.trans h.rstN, hrs.trans h.ready, hop.trans h.opLast, ?_⟩, hturns, by simp [hb]⟩
    exact (exec_runsOrEnds ht).imp_left fun ⟨hb', hc'⟩ => ⟨hb'.trans hb, hc'.trans hc⟩
  · simp only [blockStep, h.rstN, h.ready, hc, if_true, Host.Outcome.next.injEq] at ht
    subst ht
    exact ⟨h, rfl, fun _ => rfl⟩

/-- The turns of a host that waits, or of one that is through since it has read BUSY 0. -/
def State.WaitsOrThrough (s : State) : Prop :=
  (∃ n gaps, s.turns = List.replicate n .block ++ [.wait gaps]) ∨ (s.turns = [] ∧ s.stBusy = false)

/-- While a host waits for a started command, and when it is through, every step keeps it so. -/
theorem step_waitsOrThrough {i : Instr} {s t : State} (h : s.Started i) (hw : s.WaitsOrThrough)
    (ht : step s = .next t) : t.Started i ∧ t.WaitsOrThrough := by
  have hbegin : s.begin.Started i := h.withTurn _ _ _
  obtain ⟨n | n, gaps, hs⟩ | ⟨hs, hb⟩ := hw
  · obtain ⟨hbusy, hidle⟩ := waitReadsStatusUntilTheBlockIsIdle s gaps [] hs
    cases hb : s.stBusy with
    | true =>
      rw [hbusy hb] at ht
      cases ht
      exact ⟨{ h with }, .inl ⟨_, _, rfl⟩⟩
    | false =>
      rw [hidle hb] at ht
      cases ht
      exact ⟨{ h with }, .inr ⟨rfl, hb⟩⟩
  · obtain ⟨hturn, hrest⟩ := State.turn_of_turns hs
    rw [step_block hturn] at ht
    obtain ⟨hstarted, hturns, -⟩ := hbegin.of_blockStep ht
    exact ⟨hstarted, .inl ⟨n, gaps, hturns.trans hrest.symm⟩⟩
  · rw [step_block (by simp [State.turn, hs])] at ht
    obtain ⟨hstarted, hturns, hsame⟩ := hbegin.of_blockStep ht
    exact ⟨hstarted, .inr ⟨by simp [hturns, hs], by simp [hsame hb, hb]⟩⟩

/-- A host that waits for a started command waits or is through in every state of the run. -/
theorem stepN_waitsOrThrough {i : Instr} {n : Nat} {s t : State} (h : s.Started i) (hw : s.WaitsOrThrough)
    (ht : stepN n s = .next t) : t.Started i ∧ t.WaitsOrThrough := by
  induction n generalizing s with
  | zero =>
    cases ht
    exact ⟨h, hw⟩
  | succ n ih =>
    cases hs : step s with
    | next u =>
      rw [stepN_succ n hs] at ht
      obtain ⟨hu, hwu⟩ := step_waitsOrThrough h hw hs
      exact ih hu hwu ht
    | fault r => simp [stepN, hs] at ht
    | refused r => simp [stepN, hs] at ht

/-- A host that is through with its wait has seen the command complete. -/
theorem State.Started.completed {i : Instr} {s : State} (h : s.Started i) (hw : s.WaitsOrThrough) (hs : s.turns = []) :
    s.stBusy = false ∧ s.stDone = true ∧ s.cur = none ∧ s.opLast = opcodeOf i := by
  have hb : s.stBusy = false := by
    obtain ⟨n, gaps, hw⟩ | ⟨-, hb⟩ := hw
    · simp [hs] at hw
    · exact hb
  obtain ⟨hb', -⟩ | ⟨-, hd, hc⟩ := h.runs_or_done
  · simp [hb] at hb'
  · exact ⟨hb, hd, hc, h.opLast⟩

/-- Settles O58: before the writes are done turns are listed; after them the command is started, and the host waits
or is through (`stepN_waitsOrThrough`). -/
theorem expandedCommandHasCompletedAfterTheWait : Obligations.ExpandedCommandHasCompletedAfterTheWait := by
  unfold Obligations.ExpandedCommandHasCompletedAfterTheWait
  intro c gaps s t n hwf hn hp hb hs ht hend
  have hwrites := hostWrites_load c hwf hn hb
  obtain hlt | hle := Nat.lt_or_ge n (hostWrites c).length
  · exact absurd hend (hwrites.turns_ne_nil hs hlt ht)
  · obtain ⟨m, e, hrun⟩ := hwrites.stepN_eq hs
    obtain ⟨k, rfl⟩ := Nat.exists_eq_add_of_le hle
    rw [stepN_add _ k hrun] at ht
    have hstart := State.started_accept c.instr ((c.load_rstN s).trans hn) ((c.load_rs s).trans hp)
    obtain ⟨hstarted, hwait⟩ := stepN_waitsOrThrough (hstart.withTurn (waitTurns gaps) m e) (.inl ⟨_, _, rfl⟩) ht
    exact hstarted.completed hwait hend

end Sys2Proof.Machine
end

section
/-! SUPPORT. A micro-step that sends one frame as its exact next state (40_register_bus.md R114), and the single-frame
RegisterBus commands (R100-R111). -/
namespace Sys2Proof.Machine

/-! ### One frame -/

/-- A frame that succeeds, as R114 and R37 give the state after it. -/
theorem State.runFrame_afterFrame {s : State} {tx rx : List Byte} (f : List Byte → State → State)
    (h : s.answer tx = some rx) : s.runFrame tx f = f rx (s.afterFrame tx rx (Config.mosiIdle s.tick)) :=
  State.runFrame_ok f h

/-- A frame that fails, as R114 and R172 give the state after it. -/
theorem State.runFrame_afterFail {s : State} {tx : List Byte} (f : List Byte → State → State)
    (h : s.answer tx = none) : s.runFrame tx f = s.afterFail tx (Config.mosiIdle s.tick) :=
  State.runFrame_fail f h

namespace FrameStep

variable {i : Instr} {s u : State} {tx rx : List Byte} {f : List Byte → State → State}

/-- The micro-step does send the frame that `FrameStep` lists for it: the converse of `exec_next`. -/
theorem exec_eq (hf : FrameStep i s u tx f) : exec i s = .next (u.runFrame tx f) := by
  cases hf with
  | rdb | rdw | rdblk | wrb | wrw | wrblk => rfl
  | dump _ hk => exact if_pos hk
  | configSleep _ hk | configFrf _ hk | configPa _ hk => simp only [exec, execConfig, hk, State.frameThen]
  | l1 _ hts => simp only [exec, execTxcycle, hts, txL1, State.frameThen]
  | l2 _ hts hk | l3 _ hts hk | l4 _ hts hk | transmit _ hts hk =>
    simp only [exec, execTxcycle, hts, hk, txL2, txL3, txL4, txT, State.frameThen]
  | firstPoll _ hts => simp [exec, execTxcycle, hts, txP, enterAwaiting]
  | poll _ hts hd hl => simp [exec, execTxcycle, hts, txAwaiting, hd, hl, txP, enterAwaiting]
  | clear _ hts hd hl => simp [exec, execTxcycle, hts, txAwaiting, hd, hl, txD]

/-- The micro-step whose frame is answered: the lines at rest, and what the command does with the bytes received. -/
theorem exec_answered (hf : FrameStep i s u tx f) (h : u.answer tx = some rx) :
    exec i s = .next (f rx (u.afterFrame tx rx (Config.mosiIdle u.tick))) := by
  rw [hf.exec_eq, State.runFrame_afterFrame f h]

/-- The micro-step whose frame fails: the abort with BUS in the state the frame was sent in (R116). -/
theorem exec_failed (hf : FrameStep i s u tx f) (h : u.answer tx = none) :
    exec i s = .next (u.afterFail tx (Config.mosiIdle u.tick)) := by
  rw [hf.exec_eq, State.runFrame_afterFail f h]

/-- A frame whose answer is not used: completion, or the abort with BUS (R115, R116). -/
theorem exec_write (hf : FrameStep i s s tx fun _ t => t.complete) :
    (∀ rx, s.answer tx = some rx → ∃ m, exec i s = .next { s.afterFrame tx rx m with
      stBusy := false, stDone := true, cur := none, k := 0, ts := .idle }) ∧
    (s.answer tx = none → ∃ m, exec i s = .next (s.afterFail tx m)) :=
  ⟨fun _ h => ⟨_, hf.exec_answered h⟩, fun h => ⟨_, hf.exec_failed h⟩⟩

end FrameStep

/-- A read header is the address with bit 7 cleared (30_encoding.md R75). -/
theorem hdr_read_eq_and (a : Byte) : hdr false a = a &&& 0x7F := BitVec.or_zero

/-! ### Reads -/

/-- Settles O22: the two bytes received, of which RDB uses the second. -/
theorem rdbReadsTheSecondByte : Obligations.RdbReadsTheSecondByte := by
  unfold Obligations.RdbReadsTheSecondByte
  intro s
  have hf := FrameStep.rdb s
  rw [rdbTx, hdr_read_eq_and] at hf
  refine ⟨hdr_read_eq_and s.addr ▸ hdr_read_bit s.addr, fun rx h => ?_, fun h => ⟨_, hf.exec_failed h⟩⟩
  obtain ⟨x, b, rfl⟩ := List.length_eq_two.mp (State.answer_length h)
  exact ⟨x, b, _, rfl, hf.exec_answered h⟩

/-- Settles O23: the three bytes received, of which RDW uses the last two, high byte first. -/
theorem rdwAssemblesHighByteFirst : Obligations.RdwAssemblesHighByteFirst := by
  unfold Obligations.RdwAssemblesHighByteFirst
  intro s
  have hf := FrameStep.rdw s
  rw [rdwTx, hdr_read_eq_and] at hf
  refine ⟨fun rx h => ?_, fun h => ⟨_, hf.exec_failed h⟩⟩
  obtain ⟨x, hi, lo, rfl⟩ := List.length_eq_three.mp (State.answer_length h)
  have hx := hf.exec_answered h
  simp only [rxByte, List.getD_cons_succ, List.getD_cons_zero, wordHi_wireWord, wordLo_wireWord] at hx
  exact ⟨x, hi, lo, _, rfl, hx, rfl⟩

/-- What BUF reads as after a block of bytes is stored from its start on (R104). -/
theorem bufByte_bufStoreAll (s : State) {vs : List Byte} (hfit : vs.length ≤ Config.bufSize) (j : Nat) :
    ({ s with buf := bufStoreAll s.buf 0 vs } : State).bufByte j =
      if j < vs.length then vs.getD j 0x00 else s.bufByte j := by
  split
  · rename_i hj
    simp [State.bufByte, bufStoreAll_lookup _ 0 j vs (by omega), hj]
  · rename_i hj
    exact bufByte_beyond_bufStoreAll rfl rfl hfit (by omega)

/-- Settles O24: the bytes received after the first are as many as LEN, and go to BUF from its start. -/
theorem rdblkWritesExactlyNBytes : Obligations.RdblkWritesExactlyNBytes := by
  unfold Obligations.RdblkWritesExactlyNBytes
  intro s tx
  have hf := FrameStep.rdblk s
  rw [rdblkTx, hdr_read_eq_and] at hf
  refine ⟨fun rx h => ?_, fun h => ⟨_, hf.exec_failed h⟩⟩
  have hlen : rx.length = s.len.toNat + 1 := by simp [State.answer_length h, tx]
  have hdata : (rx.drop 1).length = s.len.toNat := by simp [hlen]
  have hmax : s.len.toNat < 256 := s.len.isLt
  refine ⟨hlen, _, _, hf.exec_answered h, fun j => ?_⟩
  refine (bufByte_bufStoreAll s (hdata.trans_le hmax.le) j).trans ?_
  simp [hlen]

/-! ### Writes -/

/-- Settles O25: WRB's frame with the header written out. -/
theorem wrbSendsTheByte : Obligations.WrbSendsTheByte := by
  unfold Obligations.WrbSendsTheByte
  intro s
  have hf := FrameStep.wrb s
  rw [wrbTx, hdr_write_eq_or] at hf
  exact hf.exec_write

/-- The word that WRW sends is DATA_LO, then DATA_HI (R108). -/
theorem wrwTx_hostWord (a hi lo : Byte) : wrwTx a (hostWord hi lo) = [a ||| 0x80, lo, hi] := by
  rw [wrwTx, hdr_write_eq_or, wordLo_hostWord, wordHi_hostWord]

/-- The written-out write header has bit 7 set (R107, R109, R111). -/
theorem or_0x80_bit (a : Byte) : (a ||| 0x80).getLsbD 7 = true :=
  hdr_write_eq_or a ▸ hdr_write_bit a

/-- Settles O26: the halves of the host value are the two data registers. -/
theorem wrwSendsLowByteFirst : Obligations.WrwSendsLowByteFirst := by
  unfold Obligations.WrwSendsLowByteFirst
  intro s v tx
  have htx : tx = wrwTx s.addr v := by
    rw [wrwTx, hdr_write_eq_or]
    rfl
  have hf : FrameStep .wrw s s tx fun _ t => t.complete := htx ▸ FrameStep.wrw s
  exact ⟨htx.trans (wrwTx_hostWord _ _ _), or_0x80_bit s.addr, hf.exec_write⟩

/-- Settles O27: WRBLK's frame is its header, then `BUF[0..N-1]`. -/
theorem wrblkSendsTheBufferInOrder : Obligations.WrblkSendsTheBufferInOrder := by
  unfold Obligations.WrblkSendsTheBufferInOrder
  intro s
  have hf := FrameStep.wrblk s
  rw [wrblkTx, hdr_write_eq_or] at hf
  refine ⟨_, ?_, rfl, or_0x80_bit s.addr, fun j hj => ?_, hf.exec_write⟩
  · rw [List.length_cons, bufBytes_length, Nat.add_comm]
  · rw [List.getElem?_cons_succ, State.bufBytes_getElem? s hj]

end Sys2Proof.Machine
end

section
/-! SUPPORT. DUMP: one address a micro-step, and the whole command (40_register_bus.md R112, R113). -/
namespace Sys2Proof.Machine

/-! ### One micro-step -/

/-- DUMP's addresses fit in seven bits, so the header is the address (R112). -/
theorem dumpTx_eq {k : Nat} (hk : k ≤ 0x42) : dumpTx k = [BitVec.ofNat 8 k, 0x00] := by
  have h : BitVec.ofNat 8 k &&& 0x7F = BitVec.ofNat 8 k := by
    apply BitVec.eq_of_toNat_eq
    rw [BitVec.toNat_and, BitVec.toNat_ofNat, show (0x7F : Byte).toNat = 2 ^ 7 - 1 from rfl,
      Nat.and_two_pow_sub_one_eq_mod]
    omega
  rw [dumpTx, h]

section Address

variable {s : State} {x v : Byte}

/-- The read of an address before the last is answered: its value goes to BUF, and the next address is next. -/
theorem exec_dump_next (hk : s.k < 0x42) (ha : s.answer [BitVec.ofNat 8 s.k, 0x00] = some [x, v]) :
    exec .dump s = .next { s.afterFrame [BitVec.ofNat 8 s.k, 0x00] [x, v] (Config.mosiIdle s.tick) with
      buf := bufStore s.buf s.k v, k := s.k + 1 } := by
  have hf := FrameStep.dump s hk.le
  rw [dumpTx_eq hk.le] at hf
  obtain ⟨hlast, -⟩ | ⟨-, hr⟩ := dumpResult_cases [x, v]
    (s.afterFrame [BitVec.ofNat 8 s.k, 0x00] [x, v] (Config.mosiIdle s.tick))
  · exact absurd hlast hk.ne
  · exact (hf.exec_answered ha).trans (congrArg _ hr)

/-- The read of the last address is answered: its value goes to BUF, and the command completes. -/
theorem exec_dump_last (hk : s.k = 0x42) (ha : s.answer [BitVec.ofNat 8 s.k, 0x00] = some [x, v]) :
    exec .dump s = .next { s.afterFrame [BitVec.ofNat 8 s.k, 0x00] [x, v] (Config.mosiIdle s.tick) with
      buf := bufStore s.buf s.k v, stBusy := false, stDone := true, cur := none, k := 0, ts := .idle } := by
  have hf := FrameStep.dump s hk.le
  rw [dumpTx_eq hk.le] at hf
  obtain ⟨-, hr⟩ | ⟨hlast, -⟩ := dumpResult_cases [x, v]
    (s.afterFrame [BitVec.ofNat 8 s.k, 0x00] [x, v] (Config.mosiIdle s.tick))
  · exact (hf.exec_answered ha).trans (congrArg _ hr)
  · exact absurd hk hlast

end Address

/-- Settles O28: the two bytes received, of which the second goes to `BUF[k]`, before the last address and at it. -/
theorem dumpReadsOneAddressAMicroStep : Obligations.DumpReadsOneAddressAMicroStep := by
  unfold Obligations.DumpReadsOneAddressAMicroStep
  intro s hk
  have hf := FrameStep.dump s hk
  rw [dumpTx_eq hk] at hf
  refine ⟨fun rx h => ?_, fun h => ⟨_, hf.exec_failed h⟩⟩
  obtain ⟨x, v, rfl⟩ := List.length_eq_two.mp (State.answer_length h)
  exact ⟨x, v, _, _, rfl, fun j => bufByte_bufStore s s.k j v (Nat.lt_of_le_of_lt hk (by decide)),
    fun hlt => exec_dump_next hlt h, fun heq => exec_dump_last heq h⟩

/-! ### The whole command -/

/-- The frames of successive reads from address `k` on, each answered with a pair of bytes. -/
def dumpFrames (k : Nat) (vals : List (Byte × Byte)) : List HistEntry :=
  (List.range vals.length).map fun a => .frame [BitVec.ofNat 8 (k + a), 0x00]
    [(vals.getD a (0x00, 0x00)).1, (vals.getD a (0x00, 0x00)).2]

@[simp] theorem dumpFrames_nil (k : Nat) : dumpFrames k [] = [] := rfl

@[simp] theorem dumpFrames_cons (k : Nat) (p : Byte × Byte) (vals : List (Byte × Byte)) :
    dumpFrames k (p :: vals) = .frame [BitVec.ofNat 8 k, 0x00] [p.1, p.2] :: dumpFrames (k + 1) vals := by
  simp [dumpFrames, List.range_succ_eq_map, Function.comp_def, Nat.add_assoc, Nat.add_comm 1]

/-- The state after DUMP's reads of successive addresses, answered with the pairs of bytes `vals` and with `more` still
to come, while the command runs on (R112). -/
def State.afterReads (vals : List (Byte × Byte)) (more : List Reply) (m : Bool) (s : State) : State :=
  { s with
    tick := s.tick + vals.length
    evtValid := false
    buf := bufStoreAll s.buf s.k (vals.map Prod.snd)
    k := s.k + vals.length
    device := .unconstrained more
    cs := !s.params.csActive
    sck := false
    mosi := m
    history := s.history ++ dumpFrames s.k vals }

/-- Reads after a read are reads. -/
theorem State.afterReads_afterReads (s : State) (p : Byte × Byte) (vals : List (Byte × Byte)) (rest more : List Reply)
    (m m' : Bool) : (s.afterReads [p] rest m).afterReads vals more m' = s.afterReads (p :: vals) more m' := by
  simp [State.afterReads, bufStoreAll, Nat.add_assoc, Nat.add_comm 1]

/-- DUMP runs on a ready block while the host is silent. -/
structure State.Dumping (s : State) : Prop where
  rstN : s.rstN = true
  ready : s.rs = .ready
  cur : s.cur = some (opcodeOf .dump)
  silent : s.turns = []

/-- A step of it is DUMP's micro-step. -/
theorem State.Dumping.step_eq {s : State} (h : s.Dumping) : step s = exec .dump s.begin := by
  rw [step_block (by simp [State.turn, h.silent])]
  exact blockStep_running h.rstN h.ready h.cur (decodeOp_opcodeOf .dump)

section Run

variable {s : State} {p : Byte × Byte} {rest : List Reply}

/-- The frame of a step of it leaves the radio with the rest of the replies. -/
theorem State.Dumping.begin_afterFrame (h : s.Dumping) (hd : s.device = .unconstrained (.ok [p.1, p.2] :: rest))
    (m : Bool) : ({ s.begin.afterFrame [BitVec.ofNat 8 s.k, 0x00] [p.1, p.2] m with
      buf := bufStore s.buf s.k p.2, k := s.k + 1 } : State) = s.afterReads [p] rest m := by
  have hdev : s.begin.deviceAfter [BitVec.ofNat 8 s.k, 0x00] = .unconstrained rest := State.deviceAfter_listed hd
  simp only [State.afterFrame, hdev]
  simp [State.afterReads, State.begin, h.silent, bufStoreAll]

theorem State.Dumping.step_next (h : s.Dumping) (hk : s.k < 0x42)
    (hd : s.device = .unconstrained (.ok [p.1, p.2] :: rest)) : ∃ m, step s = .next (s.afterReads [p] rest m) := by
  have hx := exec_dump_next (s := s.begin) hk (State.answer_listed hd rfl)
  exact ⟨_, h.step_eq.trans (hx.trans (congrArg _ (h.begin_afterFrame hd _)))⟩

theorem State.Dumping.step_last (h : s.Dumping) (hk : s.k = 0x42)
    (hd : s.device = .unconstrained (.ok [p.1, p.2] :: rest)) :
    ∃ m, step s = .next (s.afterReads [p] rest m).complete := by
  have hx := exec_dump_last (s := s.begin) hk (State.answer_listed hd rfl)
  exact ⟨_, h.step_eq.trans (hx.trans (congrArg (fun t => Host.Outcome.next t.complete) (h.begin_afterFrame hd _)))⟩

end Run

/-- A run of DUMP from any address to the last, on a radio that answers the reads left. -/
theorem State.Dumping.stepN_complete {s : State} {p : Byte × Byte} {vals : List (Byte × Byte)} {more : List Reply}
    (h : s.Dumping) (hk : s.k + vals.length = 0x42)
    (hd : s.device = .unconstrained ((p :: vals).map (fun p => Reply.ok [p.1, p.2]) ++ more)) :
    ∃ m, stepN (vals.length + 1) s = .next (s.afterReads (p :: vals) more m).complete := by
  induction vals generalizing s p with
  | nil =>
    obtain ⟨m, hs⟩ := h.step_last hk hd
    exact ⟨m, stepN_succ 0 hs⟩
  | cons q vals ih =>
    simp only [List.length_cons] at hk
    obtain ⟨m, hs⟩ := h.step_next (rest := (q :: vals).map (fun p => Reply.ok [p.1, p.2]) ++ more) (by omega) hd
    have hnext : (s.afterReads [p] ((q :: vals).map (fun p => Reply.ok [p.1, p.2]) ++ more) m).Dumping := { h with }
    have hk' : s.k + 1 + vals.length = 0x42 := by omega
    obtain ⟨m', hrun⟩ := ih hnext hk' rfl
    exact ⟨m', by rw [List.length_cons, stepN_succ _ hs, hrun, State.afterReads_afterReads]⟩

/-- Settles O29: the run from address 0, and BUF as the block of values stored leaves it. -/
theorem dumpFillsTheBufferInFortyThreeHexFrames : Obligations.DumpFillsTheBufferInFortyThreeHexFrames := by
  unfold Obligations.DumpFillsTheBufferInFortyThreeHexFrames
  intro s vals more hn hp hb hc hk hts hturns hlen hd
  obtain ⟨p, rest, rfl⟩ := List.exists_cons_of_length_eq_add_one hlen
  have hrest : rest.length = 0x42 := by simpa using hlen
  obtain ⟨m, hrun⟩ := State.Dumping.stepN_complete ⟨hn, hp, hc, hturns⟩ (by rw [hk, hrest]) hd
  rw [hrest] at hrun
  refine ⟨bufStoreAll s.buf 0 ((p :: rest).map Prod.snd), m, hrun.trans ?_, fun j => ?_⟩
  · simp [State.afterReads, State.complete, hk, hts, hrest, dumpFrames]
  · refine (bufByte_bufStoreAll s ?_ j).trans ?_
    · rw [List.length_map, hlen]
      decide
    · rw [List.length_map, hlen, ← List.getD_map (f := Prod.snd)]

end Sys2Proof.Machine
end

section
/-! SUPPORT. What the RegisterBus commands leave unchanged, what a failed frame leaves, and how a micro-step ends or
goes on (40_register_bus.md R115-R117, 60_exceptions.md R172). -/
namespace Sys2Proof.Machine

/-! ### The RegisterBus commands -/

/-- The commands of 40_register_bus.md. -/
def registerBus : List Instr := [.rdb, .rdw, .rdblk, .wrb, .wrw, .wrblk, .dump]

/-- Command `i` takes `s` to `t` inside R117: the poll registers are as before, IDLE is not left, and DATA and BUF
change in the commands that read into them alone. -/
structure State.KeptBy (i : Instr) (s t : State) : Prop where
  pollcnt : t.pollcnt = s.pollcnt
  lastirq : t.lastirq = s.lastirq
  nclear : t.nclear = s.nclear
  idle : s.ts = .idle → t.ts = .idle
  data : i ≠ .rdb → i ≠ .rdw → t.dataLo = s.dataLo ∧ t.dataHi = s.dataHi
  buf : i ≠ .rdblk → i ≠ .dump → t.buf = s.buf

/-- A RegisterBus command sends its frame in the state it starts from. -/
theorem FrameStep.eq_of_registerBus {i : Instr} {s u : State} {tx : List Byte} {f : List Byte → State → State}
    (hf : FrameStep i s u tx f) (hi : i ∈ registerBus) : u = s := by
  cases hf with
  | l1 | transmit | firstPoll | clear => exact absurd hi (by decide)
  | _ => rfl

/-- What a RegisterBus command does with the bytes received stays inside R117. -/
theorem FrameStep.keptBy_after {i : Instr} {s u : State} {tx : List Byte} {f : List Byte → State → State}
    (hf : FrameStep i s u tx f) (hi : i ∈ registerBus) (rx : List Byte) (t : State) : t.KeptBy i (f rx t) := by
  cases hf with
  | rdb | rdw => exact ⟨rfl, rfl, rfl, fun _ => rfl, by simp, fun _ _ => rfl⟩
  | rdblk => exact ⟨rfl, rfl, rfl, fun _ => rfl, fun _ _ => ⟨rfl, rfl⟩, by simp⟩
  | wrb | wrw | wrblk => exact ⟨rfl, rfl, rfl, fun _ => rfl, fun _ _ => ⟨rfl, rfl⟩, fun _ _ => rfl⟩
  | dump =>
    obtain ⟨-, hd⟩ | ⟨-, hd⟩ := dumpResult_cases rx t <;> rw [hd]
    · exact ⟨rfl, rfl, rfl, fun _ => rfl, fun _ _ => ⟨rfl, rfl⟩, by simp⟩
    · exact ⟨rfl, rfl, rfl, id, fun _ _ => ⟨rfl, rfl⟩, by simp⟩
  | _ => exact absurd hi (by decide)

/-- A RegisterBus command stays inside R117, whether its frame succeeds or fails. -/
theorem exec_keptBy {i : Instr} {s t : State} (hi : i ∈ registerBus) (h : exec i s = .next t) : s.KeptBy i t := by
  obtain ⟨rfl, -⟩ | ⟨rfl, -⟩ | ⟨u, tx, f, hf, rfl⟩ := exec_next h
  · exact absurd hi (by decide)
  · exact absurd hi (by decide)
  · obtain rfl := hf.eq_of_registerBus hi
    obtain ⟨rx, -, -, hr⟩ | ⟨-, hr⟩ := u.runFrame_cases tx f <;> rw [hr]
    · exact { hf.keptBy_after hi rx (u.exchange tx (.frame tx rx)) with }
    · exact ⟨rfl, rfl, rfl, fun _ => rfl, fun _ _ => ⟨rfl, rfl⟩, fun _ _ => rfl⟩

/-- Settles O42: ADDR and LEN no command writes, the rest is `exec_keptBy`. -/
theorem registerBusCommandsLeaveTheRest : Obligations.RegisterBusCommandsLeaveTheRest := by
  unfold Obligations.RegisterBusCommandsLeaveTheRest
  intro i s t hi h
  obtain ⟨haddr, hlen, -⟩ := noCommandWritesItsOperands i s t h
  have hk := exec_keptBy hi h
  exact ⟨haddr, hlen, hk.pollcnt, hk.lastirq, hk.nclear, hk.idle, hk.data, hk.buf⟩

/-! ### A failed frame -/

/-- After its frame a micro-step records at most a poll's tick. -/
theorem FrameStep.history_after {i : Instr} {s u : State} {tx : List Byte} {f : List Byte → State → State}
    (hf : FrameStep i s u tx f) (rx : List Byte) (t : State) :
    (f rx t).history = t.history ∨ (f rx t).history = t.history ++ [.evt .pollTick] := by
  cases hf with
  | dump => obtain ⟨-, hd⟩ | ⟨-, hd⟩ := dumpResult_cases rx t <;> rw [hd] <;> exact .inl rfl
  | firstPoll | poll =>
    obtain ⟨-, hp⟩ | ⟨-, -, hp⟩ | ⟨-, -, hp⟩ := pollResult_cases rx t <;> rw [hp]
    · exact .inl rfl
    · exact .inr rfl
    · exact .inr rfl
  | _ => exact .inl rfl

/-- Before its frame a micro-step writes no data register, no byte of BUF and no flags read. -/
theorem FrameStep.results_before {i : Instr} {s u : State} {tx : List Byte} {f : List Byte → State → State}
    (hf : FrameStep i s u tx f) :
    u.dataLo = s.dataLo ∧ u.dataHi = s.dataHi ∧ u.buf = s.buf ∧ u.lastirq = s.lastirq := by
  cases hf <;> exact ⟨rfl, rfl, rfl, rfl⟩

/-- A micro-step whose history ends with FAIL is one whose frame failed: no other entry it can end with is a FAIL. -/
theorem exec_of_fail {i : Instr} {s t : State} {before : List HistEntry} {tx : List Byte} (h : exec i s = .next t)
    (hfail : t.history = s.history ++ before ++ [.fail tx]) :
    ∃ u tx' f, FrameStep i s u tx' f ∧ t = (u.exchange tx' (.fail tx')).raise .bus := by
  have hlast : t.history.getLast? = some (.fail tx) := by simp [hfail]
  obtain ⟨-, -, -, rfl⟩ | ⟨-, -, rfl⟩ | ⟨u, tx', f, hf, rfl⟩ := exec_next h
  · simp [txW] at hlast
  · simp at hfail
  · obtain ⟨rx, -, -, hr⟩ | ⟨-, hr⟩ := u.runFrame_cases tx' f <;> rw [hr] at hlast ⊢
    · obtain hh | hh := hf.history_after rx (u.exchange tx' (.frame tx' rx)) <;> simp [hh] at hlast
    · exact ⟨u, tx', f, hf, rfl⟩

/-- Settles O44: the micro-step raised BUS right after its frame (`exec_of_fail`), and wrote no result before it. -/
theorem failedFrameWritesNoResult : Obligations.FailedFrameWritesNoResult := by
  unfold Obligations.FailedFrameWritesNoResult
  intro i s t before tx h hfail
  obtain ⟨u, tx', f, hf, rfl⟩ := exec_of_fail h hfail
  obtain ⟨hlo, hhi, hbuf, hirq⟩ := hf.results_before
  exact ⟨hlo, hhi, hbuf, hirq, rfl, rfl, rfl, rfl, rfl, rfl, rfl, rfl⟩

/-! ### A micro-step ends its command or leaves it running -/

/-- What a running command has reported: BUSY, DONE, ERR, ERRCODE and `cur`. -/
def State.progress (s : State) : Bool × Bool × Bool × ErrCode × Option Opcode :=
  (s.stBusy, s.stDone, s.stErr, s.errcode, s.cur)

/-- The command of `s` has ended in `t`, with no error of its own or with BUS or TIMEOUT. -/
structure State.EndedIn (s t : State) : Prop where
  busy : t.stBusy = false
  done : t.stDone = true
  cur : t.cur = none
  k : t.k = 0
  ts : t.ts = .idle
  err : (t.stErr = s.stErr ∧ t.errcode = s.errcode) ∨
    (t.stErr = true ∧ (t.errcode = .bus ∨ t.errcode = .timeout))

theorem State.complete_endedIn (s : State) : s.EndedIn s.complete := ⟨rfl, rfl, rfl, rfl, rfl, .inl ⟨rfl, rfl⟩⟩

theorem State.raise_endedIn (s u : State) {e : ErrCode} (he : e = .bus ∨ e = .timeout) : s.EndedIn (u.raise e) :=
  ⟨rfl, rfl, rfl, rfl, rfl, .inr ⟨rfl, he⟩⟩

/-- Only the progress before counts. -/
theorem State.EndedIn.congr {s u t : State} (h : u.EndedIn t) (hu : u.progress = s.progress) : s.EndedIn t := by
  simp only [State.progress, Prod.mk.injEq] at hu
  obtain ⟨-, -, herr, hcode, -⟩ := hu
  exact { h with err := by rw [← herr, ← hcode]; exact h.err }

/-- An event, a transmit state or a counter reports nothing. -/
theorem FrameStep.progress_before {i : Instr} {s u : State} {tx : List Byte} {f : List Byte → State → State}
    (hf : FrameStep i s u tx f) : u.progress = s.progress := by
  cases hf <;> rfl

/-- What a command does with the bytes received ends it by completion or by a poll's TIMEOUT, or reports nothing. -/
theorem FrameStep.endsOrContinues_after {i : Instr} {s u : State} {tx : List Byte} {f : List Byte → State → State}
    (hf : FrameStep i s u tx f) (rx : List Byte) (t : State) :
    t.EndedIn (f rx t) ∨ (f rx t).progress = t.progress := by
  cases hf with
  | rdb | rdw | rdblk | wrb | wrw | wrblk | configPa => exact .inl { t.complete_endedIn with }
  | dump =>
    obtain ⟨-, hd⟩ | ⟨-, hd⟩ := dumpResult_cases rx t <;> rw [hd]
    · exact .inl { t.complete_endedIn with }
    · exact .inr rfl
  | firstPoll | poll =>
    obtain ⟨-, hp⟩ | ⟨-, -, hp⟩ | ⟨-, -, hp⟩ := pollResult_cases rx t <;> rw [hp]
    · exact .inr rfl
    · exact .inl (t.raise_endedIn _ (.inr rfl))
    · exact .inr rfl
  | _ => exact .inr rfl

/-- A micro-step ends its command or reports nothing, whatever the radio answered. -/
theorem exec_endsOrContinues {i : Instr} {s t : State} (h : exec i s = .next t) :
    s.EndedIn t ∨ t.progress = s.progress := by
  obtain ⟨-, -, -, rfl⟩ | ⟨-, -, rfl⟩ | ⟨u, tx, f, hf, rfl⟩ := exec_next h
  · exact .inr rfl
  · exact .inl s.complete_endedIn
  · obtain ⟨rx, -, -, hr⟩ | ⟨-, hr⟩ := u.runFrame_cases tx f <;> rw [hr]
    · have hx : (u.exchange tx (.frame tx rx)).progress = s.progress := hf.progress_before
      exact (hf.endsOrContinues_after rx _).imp (·.congr hx) (·.trans hx)
    · exact .inl (s.raise_endedIn _ (.inl rfl))

/-- Settles O45, field by field of what `exec_endsOrContinues` says. -/
theorem microStepEndsOrContinues : Obligations.MicroStepEndsOrContinues := by
  unfold Obligations.MicroStepEndsOrContinues
  intro i s t hb h
  refine (exec_endsOrContinues h).imp (fun he => ⟨he.busy, he.done, he.cur, he.k, he.ts, he.err⟩) fun hp => ?_
  simpa only [State.progress, Prod.mk.injEq, hb] using hp

end Sys2Proof.Machine
end

section
/-! SUPPORT. A byte written to the reference device and read back (40_register_bus.md R107; 92_eei_decisions.md D27). -/
namespace Sys2Proof.Machine

/-- Away from the FIFO, the one data position of a byte written is its address. -/
theorem RefDev.frame_wrbTx (r : RefDev) {a : Byte} {p : DevAddr} (v : Byte) (hp : p = a.extractLsb' 0 7)
    (h0 : p ≠ 0x00) : (r.frame (wrbTx a v)).1 = r.memWrite p v := by
  simp only [wrbTx, RefDev.frame, hdr_write_bit, hdr_addr, ← hp, beq_false_of_ne h0]
  rfl

/-- A byte read at an address that is neither the FIFO nor the IRQ flags answers its register. -/
theorem RefDev.frame_rdbTx (r : RefDev) {a : Byte} {p : DevAddr} (hp : p = a.extractLsb' 0 7)
    (h0 : p ≠ 0x00) (h12 : p ≠ 0x12) : (r.frame (rdbTx a)).2 = [0x00, Memory.byte0 r.regs p.toNat] := by
  simp only [rdbTx, RefDev.frame, RefDev.positions, hdr_read_bit, hdr_addr, ← hp,
    Bool.false_eq_true, if_false, r.memRead_register h0 h12]

/-- RDB puts the second byte received into DATA_LO and clears DATA_HI (40_register_bus.md R100). -/
theorem exec_rdb_data {s t : State} {rx : List Byte} (ha : s.answer (rdbTx s.addr) = some rx)
    (h : exec .rdb s = .next t) : t.dataLo = rxByte rx 1 ∧ t.dataHi = 0x00 := by
  cases h
  rw [State.runFrame_ok _ ha]
  exact ⟨rfl, rfl⟩

/-- The history after WRB: its frame, answered or failed. -/
theorem exec_wrb_history {s t : State} (h : exec .wrb s = .next t) :
    ∃ rx, t.history = s.history ++ [.frame (wrbTx s.addr s.dataLo) rx] ∨
      t.history = s.history ++ [.fail (wrbTx s.addr s.dataLo)] := by
  cases h
  obtain ⟨rx, -, -, hr⟩ | ⟨-, hr⟩ := s.runFrame_cases (wrbTx s.addr s.dataLo) fun _ t => t.complete <;> rw [hr]
  · exact ⟨rx, .inl rfl⟩
  · exact ⟨[], .inr rfl⟩

/-- Settles O53: WRB's header, and the register that WRB leaves with the byte and RDB answers. -/
theorem byteWrittenComesBackOnTheReferenceDevice : Obligations.ByteWrittenComesBackOnTheReferenceDevice := by
  unfold Obligations.ByteWrittenComesBackOnTheReferenceDevice
  refine ⟨fun s t ht => ?_, fun s t u r hr hwf h0 h12 ht hu => ?_⟩
  · have hhist := exec_wrb_history ht
    rw [wrbTx, hdr_write_eq_or] at hhist
    exact ⟨or_0x80_bit s.addr, hhist⟩
  · have haddr := exec_addr ht
    cases ht
    have hdev := State.runFrame_device_reference hr (wrbTx s.addr s.dataLo) (f := fun _ t => t.complete) fun _ _ => rfl
    rw [r.frame_wrbTx _ rfl h0] at hdev
    obtain ⟨hlo, hhi⟩ := exec_rdb_data (State.answer_reference hdev _) hu
    rw [RefDev.frame_rdbTx _ (by rw [haddr]) h0 h12, RefDev.byte0_memWrite_register hwf _ _ h0 h12, if_pos rfl] at hlo
    exact ⟨hlo, hhi⟩

end Sys2Proof.Machine
end

section
/-! SUPPORT. The micro-steps of the TransmitController as exact next states (41_transmit_controller.md R140-R149,
R153). -/
namespace Sys2Proof.Machine

/-! ### CONFIG -/

/-- Settles O30: one frame a micro-step, answered or failed. -/
theorem configSendsItsThreeFrames : Obligations.ConfigSendsItsThreeFrames := by
  unfold Obligations.ConfigSendsItsThreeFrames
  intro s
  have sleep := fun hk => FrameStep.configSleep s hk
  have frf := fun hk => FrameStep.configFrf s hk
  have pa := fun hk => FrameStep.configPa s hk
  exact ⟨fun hk _ h => ⟨_, (sleep hk).exec_answered h⟩, fun hk _ h => ⟨_, (frf hk).exec_answered h⟩,
    fun hk => (pa hk).exec_write.1, fun hk h => ⟨_, (sleep hk).exec_failed h⟩,
    fun hk h => ⟨_, (frf hk).exec_failed h⟩, fun hk => (pa hk).exec_write.2⟩

/-! ### Entering a transmit state -/

namespace FrameStep

variable {i : Instr} {s : State} {ts : TxState} {e : Event} {tx rx : List Byte} {f : List Byte → State → State}

/-- A micro-step that enters a transmit state and emits its event, its frame answered: the event comes first. -/
theorem exec_entered (hf : FrameStep i s (({ s with ts := ts } : State).emit e) tx f) (h : s.answer tx = some rx) :
    ∃ m, exec i s = .next (f rx { s.afterFrame tx rx m with
      ts := ts, evtValid := true, evtCode := e, history := s.history ++ [.evt e, .frame tx rx] }) := by
  refine ⟨Config.mosiIdle s.tick, (hf.exec_answered h).trans ?_⟩
  simp [State.afterFrame, State.emit, State.deviceAfter]

/-- Its frame failed: the event stays before the failure. -/
theorem exec_enter_failed (hf : FrameStep i s (({ s with ts := ts } : State).emit e) tx f) (h : s.answer tx = none) :
    ∃ m, exec i s = .next { s.afterFail tx m with
      evtValid := true, evtCode := e, history := s.history ++ [.evt e, .fail tx] } := by
  refine ⟨Config.mosiIdle s.tick, (hf.exec_failed h).trans ?_⟩
  simp [State.afterFail, State.emit, State.deviceAfter]

end FrameStep

/-- Settles O32: L1 enters LOADING, and L2 to L4 are one frame each. -/
theorem loadingSendsBasePointerPayloadLength : Obligations.LoadingSendsBasePointerPayloadLength := by
  unfold Obligations.LoadingSendsBasePointerPayloadLength
  intro s
  exact ⟨fun hts _ h => (FrameStep.l1 s hts).exec_entered h,
    fun hts hk _ h => ⟨_, (FrameStep.l2 s hts hk).exec_answered h⟩,
    fun hts hk _ h => ⟨_, (FrameStep.l3 s hts hk).exec_answered h⟩,
    fun hts hk _ h => ⟨_, (FrameStep.l4 s hts hk).exec_answered h⟩⟩

/-- Settles O33: T enters TRANSMITTING. -/
theorem transmittingWritesTheTransmitMode : Obligations.TransmittingWritesTheTransmitMode := by
  unfold Obligations.TransmittingWritesTheTransmitMode
  exact fun s _ hts hk h => (FrameStep.transmit s hts hk).exec_entered h

/-! ### The poll test, and D and C (R147, R149) -/

/-- The poll test is bit 3 of the flags alone. -/
theorem txDoneFlag_eq_false_iff {f : Byte} : txDoneFlag f = false ↔ f &&& 0x08 = 0x00 := by
  simp [txDoneFlag, Config.irqTxDone]

theorem txDoneFlag_eq_true_iff {f : Byte} : txDoneFlag f = true ↔ f &&& 0x08 ≠ 0x00 := by
  simp [txDoneFlag, Config.irqTxDone]

/-- Settles O36: D enters DONE, and C is `Complete`. -/
theorem doneClearsTheFlagAndCompletes : Obligations.DoneClearsTheFlagAndCompletes := by
  unfold Obligations.DoneClearsTheFlagAndCompletes
  refine ⟨fun s rx hts hd hirq h => ?_, fun s hts => ?_⟩
  · exact (FrameStep.clear s hts hd (txDoneFlag_eq_true_iff.mpr hirq)).exec_entered h
  · simp only [exec, execTxcycle, hts, txC, State.complete]

/-! ### The poll (R147, R150) -/

section Result

variable {s : State} {x f : Byte}

/-- What a poll does with the flag set, clear below the bound, and clear at the bound (R147, R150). -/
theorem pollResult_of_set (hf : f &&& 0x08 ≠ 0x00) :
    pollResult [x, f] s = { s with pollcnt := satInc s.pollcnt, lastirq := f } := by
  obtain ⟨-, hp⟩ | ⟨hc, -⟩ | ⟨hc, -⟩ := pollResult_cases [x, f] s
  · exact hp
  · exact absurd (txDoneFlag_eq_false_iff.mp hc) hf
  · exact absurd (txDoneFlag_eq_false_iff.mp hc) hf

theorem pollResult_of_clear (hf : f &&& 0x08 = 0x00) (hl : ∀ l, s.params.pollLimit = some l → s.nclear + 1 < l) :
    pollResult [x, f] s = { ({ s with pollcnt := satInc s.pollcnt, lastirq := f, nclear := s.nclear + 1 } :
      State).emit .pollTick with dly := true } := by
  obtain ⟨hs, -⟩ | ⟨-, ⟨l, hlim, hle⟩, -⟩ | ⟨-, -, hp⟩ := pollResult_cases [x, f] s
  · exact absurd hf (txDoneFlag_eq_true_iff.mp hs)
  · exact absurd (hl l hlim) (by omega)
  · exact hp

theorem pollResult_of_limit (hf : f &&& 0x08 = 0x00) (hl : ∃ l, s.params.pollLimit = some l ∧ l ≤ s.nclear + 1) :
    pollResult [x, f] s = (({ s with pollcnt := satInc s.pollcnt, lastirq := f, nclear := s.nclear + 1 } :
      State).emit .pollTick).raise .timeout := by
  obtain ⟨l, hlim, hle⟩ := hl
  obtain ⟨hs, -⟩ | ⟨-, -, hp⟩ | ⟨-, hbelow, -⟩ := pollResult_cases [x, f] s
  · exact absurd hf (txDoneFlag_eq_true_iff.mp hs)
  · exact hp
  · exact absurd (hbelow l hlim) (by omega)

end Result

/-- The poll count adds 1 and saturates (R30). -/
theorem satInc_toNat (n : BitVec 16) : (satInc n).toNat = min (n.toNat + 1) 0xFFFF := by
  unfold satInc
  split
  next h => simp [h]
  next h =>
    have hlt : n.toNat ≠ 0xFFFF := fun he => h (BitVec.eq_of_toNat_eq he)
    have := n.isLt
    rw [BitVec.toNat_add, show (1 : BitVec 16).toNat = 1 from rfl]
    omega

/-- The next micro-step of TXCYCLE is a poll: the first one, or one after a wait (R143, R147). -/
def State.PollNext (s : State) : Prop :=
  s.ts = .transmitting ∨ (s.ts = .awaiting ∧ s.dly = false ∧ txDoneFlag s.lastirq = false)

/-- Before its first poll a cycle zeroes the counters; before a later one nothing changes (R147, R30). -/
theorem enterAwaiting_of_transmitting {s : State} (h : s.ts = .transmitting) :
    enterAwaiting s = { s with ts := .awaiting, pollcnt := 0x0000, nclear := 0 } := by
  simp [enterAwaiting, h]

theorem enterAwaiting_of_awaiting {s : State} (h : s.ts = .awaiting) : enterAwaiting s = s := if_pos h

/-- Entering AWAITING changes at most the transmit state and the counters. -/
theorem enterAwaiting_eq (s : State) : enterAwaiting s = { s with
    ts := .awaiting, pollcnt := (enterAwaiting s).pollcnt, nclear := (enterAwaiting s).nclear } := by
  unfold enterAwaiting
  split
  next h => rw [← h]
  next => rfl

section Poll

variable {s : State} {rx : List Byte} {x f : Byte}

/-- The poll is a frame of TXCYCLE. -/
theorem State.PollNext.frameStep (h : s.PollNext) : FrameStep .txcycle s (enterAwaiting s) pollTx pollResult := by
  obtain hts | ⟨hts, hd, hf⟩ := h
  · rw [enterAwaiting_of_transmitting hts]
    exact .firstPoll s hts
  · rw [enterAwaiting_of_awaiting hts]
    exact .poll s hts hd hf

/-- An answered poll is what `pollResult` makes of the state after its frame. -/
theorem State.PollNext.exec_answered (h : s.PollNext) (ha : s.answer pollTx = some rx) :
    exec .txcycle s = .next (pollResult rx { s.afterFrame pollTx rx (Config.mosiIdle s.tick) with
      ts := .awaiting, pollcnt := (enterAwaiting s).pollcnt, nclear := (enterAwaiting s).nclear }) := by
  have hf := h.frameStep
  rw [enterAwaiting_eq] at hf
  exact hf.exec_answered ha

/-- The poll that observes the flag set counts and records the flags. -/
theorem State.PollNext.exec_set (h : s.PollNext) (ha : s.answer pollTx = some [x, f]) (hf : f &&& 0x08 ≠ 0x00) :
    exec .txcycle s = .next { s.afterFrame pollTx [x, f] (Config.mosiIdle s.tick) with
      ts := .awaiting, pollcnt := satInc (enterAwaiting s).pollcnt, lastirq := f,
      nclear := (enterAwaiting s).nclear } := by
  rw [h.exec_answered ha, pollResult_of_set hf]

/-- The poll that observes the flag clear below the bound ticks, and leaves a delay pending. -/
theorem State.PollNext.exec_clear (h : s.PollNext) (ha : s.answer pollTx = some [x, f]) (hf : f &&& 0x08 = 0x00)
    (hl : ∀ l, s.params.pollLimit = some l → (enterAwaiting s).nclear + 1 < l) :
    exec .txcycle s = .next { s.afterFrame pollTx [x, f] (Config.mosiIdle s.tick) with
      ts := .awaiting, pollcnt := satInc (enterAwaiting s).pollcnt, lastirq := f,
      nclear := (enterAwaiting s).nclear + 1, dly := true, evtValid := true, evtCode := .pollTick,
      history := s.history ++ [.frame pollTx [x, f], .evt .pollTick] } := by
  rw [h.exec_answered ha, pollResult_of_clear hf hl]
  simp [State.afterFrame, State.emit]

/-- The poll that observes the flag clear at the bound ticks, and ends the command with TIMEOUT (R150). -/
theorem State.PollNext.exec_timeout (h : s.PollNext) (ha : s.answer pollTx = some [x, f]) (hf : f &&& 0x08 = 0x00)
    (hl : ∃ l, s.params.pollLimit = some l ∧ l ≤ (enterAwaiting s).nclear + 1) :
    exec .txcycle s = .next { s.afterFrame pollTx [x, f] (Config.mosiIdle s.tick) with
      ts := .idle, pollcnt := satInc (enterAwaiting s).pollcnt, lastirq := f, nclear := (enterAwaiting s).nclear + 1,
      evtValid := true, evtCode := .pollTick, history := s.history ++ [.frame pollTx [x, f], .evt .pollTick],
      errcode := .timeout, stErr := true, stDone := true, stBusy := false, cur := none, k := 0, dly := false } := by
  rw [h.exec_answered ha, pollResult_of_limit hf hl]
  simp [State.afterFrame, State.emit, State.raise]

end Poll

/-- Settles O34: the counters as entering AWAITING leaves them, and the three results of a poll. -/
theorem pollReadsTheIrqFlags : Obligations.PollReadsTheIrqFlags := by
  unfold Obligations.PollReadsTheIrqFlags
  intro s x f ha hts
  have h : s.PollNext := hts.imp_right fun ⟨hts, hd, hirq⟩ => ⟨hts, hd, txDoneFlag_eq_false_iff.mpr hirq⟩
  refine ⟨_, satInc (enterAwaiting s).pollcnt, (enterAwaiting s).nclear, fun hts => ?_, fun hts => ?_,
    h.exec_set ha, h.exec_clear ha, h.exec_timeout ha⟩
  · rw [enterAwaiting_of_transmitting hts]
    exact ⟨rfl, rfl⟩
  · rw [enterAwaiting_of_awaiting hts]
    exact ⟨satInc_toNat _, rfl⟩

/-- Settles O37: the frame of each micro-step of TXCYCLE fails, after the event where it enters a state. -/
theorem txcycleAbortsAtTheFailedFrame : Obligations.TxcycleAbortsAtTheFailedFrame := by
  unfold Obligations.TxcycleAbortsAtTheFailedFrame
  refine fun s => ⟨fun hts h => ?l1, fun hts hk h => ?l2, fun hts hk h => ?l3, fun hts hk h => ?l4,
    fun hts hk h => ?transmit, fun hts h => ?firstPoll, fun hts hd hirq h => ?poll, fun hts hd hirq h => ?clear⟩
  case l1 => exact (FrameStep.l1 s hts).exec_enter_failed h
  case l2 => exact ⟨_, (FrameStep.l2 s hts hk).exec_failed h⟩
  case l3 => exact ⟨_, (FrameStep.l3 s hts hk).exec_failed h⟩
  case l4 => exact ⟨_, (FrameStep.l4 s hts hk).exec_failed h⟩
  case transmit => exact (FrameStep.transmit s hts hk).exec_enter_failed h
  case firstPoll => exact ⟨_, (FrameStep.firstPoll s hts).exec_failed h⟩
  case poll => exact ⟨_, (FrameStep.poll s hts hd (txDoneFlag_eq_false_iff.mpr hirq)).exec_failed h⟩
  case clear => exact (FrameStep.clear s hts hd (txDoneFlag_eq_true_iff.mpr hirq)).exec_enter_failed h

/-! ### The wait (R148) -/

/-- With a delay pending TXCYCLE waits. -/
theorem exec_txcycle_of_dly {s : State} (hts : s.ts = .awaiting) (hd : s.dly = true) :
    exec .txcycle s = .next { s with dly := false, history := s.history ++ [.delay 10] } := by
  have hw : exec .txcycle s = .next (txAwaiting s) := by simp only [exec, execTxcycle, hts]
  rw [hw, txAwaiting, if_pos hd]
  rfl

/-- What a micro-step from `s` with no delay pending leaves: none, with one entry recorded if it ends in AWAITING; or
one, after a poll that ticked and goes on. -/
def State.DelayAfterTick (s t : State) : Prop :=
  (t.dly = false ∧ (t.ts = .awaiting → ∃ e, t.history = s.history ++ [e])) ∨
  (t.dly = true ∧ t.stBusy = s.stBusy ∧ t.ts = .awaiting ∧
    ∃ rx, t.history = s.history ++ [.frame pollTx rx, .evt .pollTick])

/-- An answered poll leaves a delay pending exactly when it ticks and goes on. -/
theorem pollResult_delayAfterTick (rx : List Byte) {s : State} (hts : s.ts = .awaiting) (hd : s.dly = false) :
    s.DelayAfterTick (pollResult rx (s.exchange pollTx (.frame pollTx rx))) := by
  obtain ⟨-, hp⟩ | ⟨-, -, hp⟩ | ⟨-, -, hp⟩ := pollResult_cases rx (s.exchange pollTx (.frame pollTx rx)) <;> rw [hp]
  · exact .inl ⟨by simp [hd], fun _ => ⟨.frame pollTx rx, by simp⟩⟩
  · exact .inl (by simp)
  · exact .inr ⟨by simp, by simp, by simp [hts], rx, by simp⟩

/-- Of the micro-steps of TXCYCLE with no delay pending only a poll leaves one. -/
theorem exec_txcycle_delayAfterTick {s t : State} (h : exec .txcycle s = .next t) (hd : s.dly = false) :
    s.DelayAfterTick t := by
  obtain ⟨-, -, hd', -⟩ | ⟨-, -, rfl⟩ | ⟨u, tx, f, hf, rfl⟩ := exec_next h
  · simp [hd] at hd'
  · exact .inl (by simp [hd])
  · obtain ⟨rx, -, -, hr⟩ | ⟨-, hr⟩ := u.runFrame_cases tx f <;> rw [hr]
    · cases hf with
      | l1 | transmit | clear => exact .inl (by simp [hd])
      | l2 _ hts | l3 _ hts | l4 _ hts => exact .inl (by simp [hd, hts])
      | firstPoll =>
        exact pollResult_delayAfterTick (s := { s with ts := .awaiting, pollcnt := 0x0000, nclear := 0 }) rx rfl hd
      | poll _ hts => exact pollResult_delayAfterTick rx hts hd
    · exact .inl (by simp)

/-- Before its frame a micro-step records at most the event of the transmit state it enters. -/
theorem FrameStep.history_before {i : Instr} {s u : State} {tx : List Byte} {f : List Byte → State → State}
    (hf : FrameStep i s u tx f) : u.history = s.history ∨ ∃ e, u.history = s.history ++ [.evt e] := by
  cases hf with
  | l1 | transmit | clear => exact .inr ⟨_, rfl⟩
  | _ => exact .inl rfl

/-- What a frame's micro-step records holds no delay. -/
theorem FrameStep.history_runFrame {i : Instr} {s u : State} {tx : List Byte} {f : List Byte → State → State}
    (hf : FrameStep i s u tx f) :
    ∃ new, (u.runFrame tx f).history = s.history ++ new ∧ ∀ ms, HistEntry.delay ms ∉ new := by
  have hbefore : ∃ new, u.history = s.history ++ new ∧ ∀ ms, HistEntry.delay ms ∉ new := by
    obtain hh | ⟨e, hh⟩ := hf.history_before
    · exact ⟨[], by simp [hh], by simp⟩
    · exact ⟨[.evt e], hh, by simp⟩
  obtain ⟨new, hh, hnew⟩ := hbefore
  obtain ⟨rx, -, -, hr⟩ | ⟨-, hr⟩ := u.runFrame_cases tx f <;> rw [hr]
  · obtain ha | ha := hf.history_after rx (u.exchange tx (.frame tx rx))
    · exact ⟨new ++ [.frame tx rx], by simp [ha, hh], by simp [hnew]⟩
    · exact ⟨new ++ [.frame tx rx, .evt .pollTick], by simp [ha, hh], by simp [hnew]⟩
  · exact ⟨new ++ [.fail tx], by simp [hh], by simp [hnew]⟩

/-- Only the wait records a delay. -/
theorem exec_delay {i : Instr} {s t : State} {new : List HistEntry} {ms : Nat} (h : exec i s = .next t)
    (hnew : t.history = s.history ++ new) (hms : .delay ms ∈ new) : s.ts = .awaiting ∧ s.dly = true := by
  obtain ⟨-, hts, hd, -⟩ | ⟨-, -, rfl⟩ | ⟨u, tx, f, hf, rfl⟩ := exec_next h
  · exact ⟨hts, hd⟩
  · obtain rfl : new = [] := by simpa using hnew
    cases hms
  · obtain ⟨new', hh, hno⟩ := hf.history_runFrame
    obtain rfl : new' = new := List.append_cancel_left (hh.symm.trans hnew)
    exact absurd hms (hno ms)

/-- Settles O35, clause by clause: the wait, what leaves a delay pending, and what records a delay. -/
theorem pollWaitFollowsEveryClearPoll : Obligations.PollWaitFollowsEveryClearPoll := by
  unfold Obligations.PollWaitFollowsEveryClearPoll
  refine ⟨fun s hts hd => exec_txcycle_of_dly hts hd, fun s t h hd => ?_,
    fun s t h new hnew hms => exec_delay h hnew hms⟩
  obtain ⟨hdly, hone⟩ | ⟨hdly, hb, hts, hh⟩ := exec_txcycle_delayAfterTick h hd
  · refine iff_of_false (by simp [hdly]) fun ⟨_, hts, rx, hh⟩ => ?_
    obtain ⟨e, he⟩ := hone hts
    simp [he] at hh
  · exact iff_of_true hdly ⟨hb, hts, hh⟩

end Sys2Proof.Machine
end

section
/-! SUPPORT. What a step does in any state, with the invariant or without it: the block's turn, and the turns of the
host around it (00_scope.md R9, R14). -/
namespace Sys2Proof.Machine

/-- The block's turn in any state: nothing, the micro-step of the reset sequence, or one of the running command (R200,
R204). -/
theorem blockStep_next {s t : State} (h : blockStep s = .next t) :
    t = s ∨ t = resetS0 s ∨ t = resetS1 s ∨ t = resetS2 s ∨ t = resetS3 s ∨
      ∃ i, s.cur = some (opcodeOf i) ∧ exec i s = .next t := by
  unfold blockStep at h
  split at h
  case isFalse => cases h; exact .inl rfl
  case isTrue =>
    split at h
    case h_1 => cases h; simp
    case h_2 => cases h; split <;> simp
    case h_3 => cases h; simp
    all_goals
      split at h
      case h_1 => cases h; exact .inl rfl
      case h_2 op hc =>
        split at h
        case h_1 i hd =>
          obtain rfl := opcodeOf_of_decodeOp hd
          exact .inr (.inr (.inr (.inr (.inr ⟨i, hc, h⟩))))
        case h_2 => cases h

/-- A step, turn by turn: what the host's turns keep, and the block's turn takes from `P` to `Q`, holds after it. -/
theorem step_turns {P Q : State → Prop} {s t : State} (ht : step s = .next t) (hP : P s.begin)
    (hblock : ∀ u v, P u → blockStep u = .next v → Q v) (hQ : ∀ u, P u → Q u)
    (hwrite : ∀ u a v, P u → P (u.hostWrite a v))
    (hport : ∀ u d turns, P u → P { u with hRdata := d, turns := turns })
    (hrst : ∀ u level, P u → P (u.setRstN level)) : Q t := by
  unfold step takeTurn at ht
  split at ht
  case h_1 => exact hblock _ _ hP ht
  case h_2 a v _ => cases ht; exact hQ _ (hwrite _ a v hP)
  case h_3 a _ => cases ht; exact hQ _ (hport s.begin (s.begin.readReg a) s.begin.turns hP)
  case h_4 gaps _ => cases ht; exact hQ _ (hport s.begin _ _ hP)
  case h_5 a v _ =>
    unfold blockAndWrite at ht
    split at ht
    · exact hblock _ _ (hwrite _ a v hP) ht
    · cases ht; exact hQ _ (hwrite _ a v hP)
  case h_6 level _ => cases ht; exact hQ _ (hrst _ level hP)

/-! ### No poll bound, no TIMEOUT (41_transmit_controller.md R150) -/

/-- There is no poll bound, and ERRCODE is not TIMEOUT. -/
def State.Untimed (s : State) : Prop := s.params.pollLimit = none ∧ s.errcode ≠ .timeout

/-- A host write accepts a command, or leaves the build and ERRCODE (10_state.md R25, R34). -/
theorem State.hostWrite_cases (s : State) (a : HostAddr) (v : Byte) :
    s.hostWrite a v = s.accept (opField v) ∨
      ((s.hostWrite a v).params = s.params ∧ (s.hostWrite a v).errcode = s.errcode) := by
  unfold State.hostWrite State.writeReg
  split
  case isFalse => exact .inr ⟨rfl, rfl⟩
  case isTrue =>
    split
    · split <;> exact .inr ⟨rfl, rfl⟩
    · split
      case h_1 =>
        split
        · exact .inr ⟨rfl, rfl⟩
        · exact .inl rfl
      case h_6 | h_7 => exact .inr ⟨rfl, rfl⟩
      all_goals split <;> exact .inr ⟨rfl, rfl⟩

namespace State.Untimed

variable {s t : State}

/-- Only the build and ERRCODE count. -/
theorem congr (h : s.Untimed) (hp : t.params = s.params) (he : t.errcode = s.errcode) : t.Untimed := by
  rwa [State.Untimed, hp, he]

/-- Acceptance sets ERRCODE to no error, INIT or ILLEGAL_OP. -/
theorem hostWrite (h : s.Untimed) (a : HostAddr) (v : Byte) : (s.hostWrite a v).Untimed := by
  obtain hw | ⟨hp, he⟩ := s.hostWrite_cases a v
  · obtain ⟨-, ha⟩ | ⟨-, -, ha⟩ | ⟨-, -, ha⟩ := s.accept_cases (opField v) <;> rw [hw, ha] <;>
      exact ⟨h.1, nofun⟩
  · exact h.congr hp he

/-- Block reset clears ERRCODE and keeps the build (70_reset_and_hazards.md R202, R203). -/
theorem setRstN (h : s.Untimed) (level : Bool) : (s.setRstN level).Untimed := by
  cases level with
  | true => exact h
  | false => exact ⟨h.1, nofun⟩

/-- A command reports BUS alone: a poll raises TIMEOUT at a bound, and there is none (R150). -/
theorem result (h : t.Untimed) {i : Instr} {u : State} {tx : List Byte} {f : List Byte → State → State}
    (hf : FrameStep i s u tx f) (rx : List Byte) : (f rx t).Untimed := by
  cases hf with
  | dump => obtain ⟨-, hd⟩ | ⟨-, hd⟩ := dumpResult_cases rx t <;> rw [hd] <;> exact h
  | firstPoll | poll =>
    obtain ⟨-, hp⟩ | ⟨-, ⟨l, hl, -⟩, -⟩ | ⟨-, -, hp⟩ := pollResult_cases rx t
    · rw [hp]; exact h
    · simp [h.1] at hl
    · rw [hp]; exact h
  | _ => exact h

theorem exec {i : Instr} (h : s.Untimed) (ht : Machine.exec i s = .next t) : t.Untimed := by
  obtain ⟨-, -, -, rfl⟩ | ⟨-, -, rfl⟩ | ⟨u, tx, f, hf, rfl⟩ := exec_next ht
  · exact h
  · exact h
  · have hu : u.Untimed := by cases hf <;> exact h
    obtain ⟨rx, -, -, hr⟩ | ⟨-, hr⟩ := u.runFrame_cases tx f <;> rw [hr]
    · exact result (t := u.exchange tx (.frame tx rx)) hu hf rx
    · exact ⟨hu.1, nofun⟩

/-- A failed opening reports INIT, and the reset sequence no other error (70_reset_and_hazards.md R201). -/
theorem blockStep (h : s.Untimed) (ht : Machine.blockStep s = .next t) : t.Untimed := by
  obtain rfl | rfl | rfl | rfl | rfl | ⟨i, -, hx⟩ := blockStep_next ht
  · exact h
  · unfold resetS0
    cases s.initDraw
    · exact ⟨h.1, nofun⟩
    · exact h
  · exact h
  · exact h
  · exact h
  · exact h.exec hx

end State.Untimed

/-- Settles O38, turn by turn (`step_turns`). -/
theorem noPollBoundNoTimeout : Obligations.NoPollBoundNoTimeout := by
  unfold Obligations.NoPollBoundNoTimeout
  intro s t hl he ht
  have hs : s.begin.Untimed := ⟨hl, he⟩
  have h : t.Untimed := step_turns ht hs (fun _ _ hu hv => hu.blockStep hv) (fun _ hu => hu)
    (fun _ a v hu => hu.hostWrite a v) (fun _ _ _ hu => hu) fun _ level hu => hu.setRstN level
  exact h.2

end Sys2Proof.Machine
end

section
/-! SUPPORT. CONFIG in every run, whatever the host and the radio do meanwhile (41_transmit_controller.md R141). -/
namespace Sys2Proof.Machine

/-! ### Histories in which the sleep frame comes first -/

/-- A frame, successful or failed, at the carrier-frequency registers, as CONFIG sends it (30_encoding.md R79). -/
def HistEntry.WritesFrf (e : HistEntry) : Prop :=
  ∃ b2 b1 b0 rx, e = .frame [0x86, b2, b1, b0] rx ∨ e = .fail [0x86, b2, b1, b0]

/-- Before a carrier-frequency frame there is the successful sleep frame, and nothing else. -/
def SleepsFirst (new : List HistEntry) : Prop :=
  ∀ before after e, new = before ++ e :: after → e.WritesFrf → ∃ rx, before = [.frame configSleepTx rx]

theorem sleepsFirst_nil : SleepsFirst [] := fun _ _ _ h => by simp at h

/-- One more entry: a carrier-frequency frame right after the sleep frame, or another entry. -/
theorem SleepsFirst.concat {new : List HistEntry} {e : HistEntry} (h : SleepsFirst new)
    (he : e.WritesFrf → ∃ rx, new = [.frame configSleepTx rx]) : SleepsFirst (new ++ [e]) := by
  intro before after x hx hfrf
  obtain rfl | ⟨after', y, rfl⟩ := after.eq_nil_or_concat
  · obtain ⟨rfl, hex⟩ := List.append_inj' hx rfl
    cases hex
    exact he hfrf
  · have hx' : new ++ [e] = (before ++ x :: after') ++ [y] := by simpa using hx
    exact h before after' x (List.append_inj' hx' rfl).1 hfrf

/-- Of CONFIG's frames only the second writes the carrier frequency (R140). -/
theorem FrameStep.k_of_writesFrf {s u : State} {tx : List Byte} {f : List Byte → State → State}
    (hf : FrameStep .config s u tx f) {e : HistEntry} (he : e = .fail tx ∨ ∃ rx, e = .frame tx rx) (hw : e.WritesFrf) :
    s.k = 1 := by
  have htx : tx.length = 4 := by
    obtain rfl | ⟨rx, rfl⟩ := he <;> obtain ⟨b2, b1, b0, rx', h | h⟩ := hw <;> cases h <;> rfl
  cases hf with
  | configSleep | configPa => cases htx
  | configFrf _ hk => exact hk

/-! ### From acceptance to the fall of BUSY -/

/-- CONFIG runs, and `new` is what its run has recorded: nothing before its first frame, the sleep frame before its
second (R140). -/
def State.Configures (new : List HistEntry) (s : State) : Prop :=
  s.rstN = true ∧ s.rs = .ready ∧ s.cur = some (opcodeOf .config) ∧ (s.k = 0 → new = []) ∧
    (s.k = 1 → ∃ rx, new = [.frame configSleepTx rx])

/-- A run of CONFIG that began with the history `h`: CONFIG runs or has ended, with the sleep frame first; or block
reset has ended it, and since then nothing runs and no frame was sent (70_reset_and_hazards.md R202). -/
def State.SinceConfig (h : List HistEntry) (s : State) : Prop :=
  (∃ new, s.history = h ++ new ∧ SleepsFirst new ∧ (s.stBusy = true → s.Configures new)) ∨
  (s.cur = none ∧ ∀ e ∈ s.history, e.isFrame = false)

/-- A micro-step of CONFIG records its frame, which is a carrier-frequency frame after the sleep frame alone. -/
theorem exec_config_sinceConfig {h new : List HistEntry} {s t : State} (hh : s.history = h ++ new)
    (hn : SleepsFirst new) (hc : s.Configures new) (ht : exec .config s = .next t) : t.SinceConfig h := by
  obtain ⟨hrst, hrs, hcur, h0, h1⟩ := hc
  obtain ⟨hi, -⟩ | ⟨hi, -⟩ | ⟨u, tx, f, hf, rfl⟩ := exec_next ht
  · cases hi
  · cases hi
  · obtain ⟨rx, -, -, hr⟩ | ⟨-, hr⟩ := u.runFrame_cases tx f <;> rw [hr]
    · have hfirst := hn.concat fun hw => h1 (hf.k_of_writesFrf (.inr ⟨rx, rfl⟩) hw)
      refine .inl ⟨new ++ [.frame tx rx], ?_, hfirst, fun hb => ?_⟩
      · cases hf <;> simp [hh]
      · cases hf with
        | configSleep _ hk => simp [State.Configures, hrst, hrs, hcur, h0 hk]
        | configFrf => simp [State.Configures, hrst, hrs, hcur]
        | configPa => simp at hb
    · have hfirst := hn.concat fun hw => h1 (hf.k_of_writesFrf (.inl rfl) hw)
      refine .inl ⟨new ++ [.fail tx], ?_, hfirst, by simp⟩
      cases hf <;> simp [hh]

namespace State.SinceConfig

variable {h : List HistEntry} {s t : State}

/-- The block's turn takes CONFIG on; after a block reset it takes the reset sequence on, which sends no frame. -/
theorem blockStep (hs : s.SinceConfig h) (hb : s.stBusy = true) (ht : Machine.blockStep s = .next t) :
    t.SinceConfig h := by
  obtain ⟨new, hh, hn, hrun⟩ | ⟨hc, hno⟩ := hs
  · obtain ⟨hrst, hrs, hcur, -⟩ := hrun hb
    rw [blockStep_running hrst hrs hcur (decodeOp_opcodeOf .config)] at ht
    exact exec_config_sinceConfig hh hn (hrun hb) ht
  · right
    obtain rfl | rfl | rfl | rfl | rfl | ⟨i, hi, -⟩ := blockStep_next ht
    · exact ⟨hc, hno⟩
    · unfold resetS0
      cases s.initDraw
      · exact ⟨hc, hno⟩
      · simpa [hc, or_imp, forall_and, HistEntry.isFrame] using hno
    · simpa [resetS1, hc, or_imp, forall_and, HistEntry.isFrame] using hno
    · simpa [resetS2, hc, or_imp, forall_and, HistEntry.isFrame] using hno
    · simpa [resetS3, hc, or_imp, forall_and, HistEntry.isFrame] using hno
    · simp [hc] at hi

/-- A host write to a busy block reaches at most the flags of STATUS. -/
theorem hostWrite (hs : s.SinceConfig h) (hb : s.stBusy = true) (a : HostAddr) (v : Byte) :
    (s.hostWrite a v).SinceConfig h ∧ (s.hostWrite a v).stBusy = true := by
  obtain hw | hw | hw := s.hostWrite_of_busy a v hb <;> rw [hw] <;> exact ⟨hs, hb⟩

/-- Block reset ends the command and empties the history (70_reset_and_hazards.md R202, R203). -/
theorem setRstN (hs : s.SinceConfig h) (hb : s.stBusy = true) (level : Bool) :
    (s.setRstN level).SinceConfig h ∧ (s.setRstN level).stBusy = true := by
  cases level with
  | false => exact ⟨.inr ⟨rfl, by simp [State.setRstN, State.blockReset, State.reset]⟩, rfl⟩
  | true =>
    refine ⟨hs.imp_left fun ⟨new, hh, hn, hrun⟩ => ⟨new, hh, hn, fun _ => ?_⟩, hb⟩
    obtain ⟨-, hrest⟩ := hrun hb
    exact ⟨rfl, hrest⟩

/-- Every step of a busy block keeps it, whatever turn the host takes. -/
theorem step (hs : s.SinceConfig h) (hb : s.stBusy = true) (ht : Machine.step s = .next t) : t.SinceConfig h :=
  step_turns (P := fun u => u.SinceConfig h ∧ u.stBusy = true) ht ⟨hs, hb⟩ (fun _ _ hu hv => hu.1.blockStep hu.2 hv)
    (fun _ hu => hu.1) (fun _ a v hu => hu.1.hostWrite hu.2 a v) (fun _ _ _ hu => hu)
    fun _ level hu => hu.1.setRstN hu.2 level

/-- It holds through every run until BUSY falls. -/
theorem stepN {n : Nat} (hs : s.SinceConfig h) (hbusy : ∀ m < n, ∃ u, Machine.stepN m s = .next u ∧ u.stBusy = true)
    (ht : Machine.stepN n s = .next t) : t.SinceConfig h := by
  induction n generalizing s with
  | zero =>
    cases ht
    exact hs
  | succ n ih =>
    obtain ⟨u, hu, hb⟩ := hbusy 0 n.succ_pos
    cases hu
    cases hv : Machine.step s with
    | next v =>
      rw [stepN_succ n hv] at ht
      refine ih (hs.step hb hv) (fun m hm => ?_) ht
      rw [← stepN_succ m hv]
      exact hbusy (m + 1) (Nat.succ_lt_succ hm)
    | fault r => simp [Machine.stepN, hv] at ht
    | refused r => simp [Machine.stepN, hv] at ht

end State.SinceConfig

/-- Settles O31: `State.SinceConfig` holds at acceptance and through the run. -/
theorem configSleepsBeforeTheFrequencyWrite : Obligations.ConfigSleepsBeforeTheFrequencyWrite := by
  unfold Obligations.ConfigSleepsBeforeTheFrequencyWrite
  intro s t n new hrst hrs hb hcur hk hbusy ht hnew before after e hsplit hframe hfrf
  have hstart : s.SinceConfig s.history :=
    .inl ⟨[], by simp, sleepsFirst_nil, fun _ => ⟨hrst, hrs, hcur, fun _ => rfl, by simp [hk]⟩⟩
  obtain ⟨new', hh, hfirst, -⟩ | ⟨-, hno⟩ := hstart.stepN hbusy ht
  · obtain rfl : new = new' := List.append_cancel_left (hnew.symm.trans hh)
    exact hfirst before after e hsplit hfrf
  · have hmem : e ∈ t.history := by simp [hnew, hsplit]
    simp [hno e hmem] at hframe

end Sys2Proof.Machine
end

section
/-! SUPPORT. Runs of TXCYCLE while the host is silent: the loading steps, the poll rounds, and the whole cycle
(41_transmit_controller.md R144-R154). -/
namespace Sys2Proof.Machine

/-! ### One step -/

/-- TXCYCLE runs on a ready block while the host is silent. -/
structure State.Cycling (s : State) : Prop where
  rstN : s.rstN = true
  ready : s.rs = .ready
  cur : s.cur = some (opcodeOf .txcycle)
  silent : s.turns = []

/-- The state after a step of TXCYCLE that sends a frame, in the transmit state `ts` and after its event, if it emits
one: `new` is recorded, the radio has `rest` still to answer, and the lines are at rest. -/
def State.moved (ts : TxState) (ev : Option Event) (new : List HistEntry) (rest : List Reply) (m : Bool) (s : State) :
    State :=
  { s with
    tick := s.tick + 1
    evtValid := ev.isSome
    evtCode := ev.getD s.evtCode
    ts := ts
    device := .unconstrained rest
    cs := !s.params.csActive
    sck := false
    mosi := m
    history := s.history ++ new }

/-- A radio that lists an answer of any length answers the frame. -/
theorem State.answer_ok {s : State} {w : List Byte} {rest : List Reply} (tx : List Byte)
    (hd : s.device = .unconstrained (.ok w :: rest)) : s.answer tx = some (misoBytes s.tick tx w) := by
  simp [State.answer, hd, Device.transfer]

namespace State.Cycling

variable {s : State} {tx w : List Byte} {rest : List Reply} {f : List Byte → State → State}

/-- A step of it is TXCYCLE's micro-step. -/
theorem step_eq (h : s.Cycling) : step s = exec .txcycle s.begin := by
  rw [step_block (by simp [State.turn, h.silent])]
  exact blockStep_running h.rstN h.ready h.cur (decodeOp_opcodeOf .txcycle)

theorem moved (h : s.Cycling) (ts : TxState) (ev : Option Event) (new : List HistEntry) (rest : List Reply) (m : Bool) :
    (s.moved ts ev new rest m).Cycling := { h with }

/-- The frame of a step of it leaves the radio with the rest of the replies. -/
theorem begin_afterFrame (h : s.Cycling) (hd : s.device = .unconstrained (.ok w :: rest)) (rx : List Byte) (m : Bool) :
    s.begin.afterFrame tx rx m = s.moved s.ts none [.frame tx rx] rest m := by
  have hdev : s.begin.deviceAfter tx = .unconstrained rest := State.deviceAfter_listed hd
  rw [State.afterFrame, hdev]
  simp [State.moved, State.begin, h.silent]

/-- A step that sends a frame and emits nothing. -/
theorem step_frame (h : s.Cycling) (hf : FrameStep .txcycle s.begin s.begin tx f)
    (hd : s.device = .unconstrained (.ok w :: rest)) :
    ∃ rx m, step s = .next (f rx (s.moved s.ts none [.frame tx rx] rest m)) :=
  ⟨_, _, by rw [h.step_eq, hf.exec_answered (State.answer_ok tx hd), h.begin_afterFrame hd]⟩

/-- A step that enters a transmit state: its event, then its frame. -/
theorem step_enter (h : s.Cycling) {ts : TxState} {e : Event}
    (hf : FrameStep .txcycle s.begin (({ s.begin with ts := ts } : State).emit e) tx f)
    (hd : s.device = .unconstrained (.ok w :: rest)) :
    ∃ rx m, step s = .next (f rx (s.moved ts (some e) [.evt e, .frame tx rx] rest m)) := by
  obtain ⟨m, hx⟩ := hf.exec_entered (State.answer_ok (s := s.begin) tx hd)
  refine ⟨misoBytes s.begin.tick tx w, m, ?_⟩
  rw [h.step_eq, hx, h.begin_afterFrame hd]
  rfl

end State.Cycling

/-! ### The loading steps and T -/

/-- The state after the first `k` of the loading steps L1 to L4, which recorded `new` (R145). -/
def State.loaded (k : Nat) (new : List HistEntry) (rest : List Reply) (m : Bool) (s : State) : State :=
  { s with
    tick := s.tick + k
    evtValid := decide (k = 1)
    evtCode := .loading
    ts := .loading
    k := k
    device := .unconstrained rest
    cs := !s.params.csActive
    sck := false
    mosi := m
    history := s.history ++ new }

/-- The state after the loading steps and T, which recorded `new` (R145, R146). -/
def State.transmitting (new : List HistEntry) (rest : List Reply) (m : Bool) (s : State) : State :=
  { s.loaded 4 new rest m with
    tick := s.tick + 5
    evtValid := true
    evtCode := .transmitting
    ts := .transmitting }

namespace State.Cycling

variable {s : State} {tx w : List Byte} {rest : List Reply} {new : List HistEntry}

theorem loaded (h : s.Cycling) (k : Nat) (new : List HistEntry) (rest : List Reply) (m : Bool) :
    (s.loaded k new rest m).Cycling := { h with }

theorem transmitting (h : s.Cycling) (new : List HistEntry) (rest : List Reply) (m : Bool) :
    (s.transmitting new rest m).Cycling := { h with }

/-- L1 enters LOADING. -/
theorem step_loading (h : s.Cycling) (hts : s.ts = .idle) (hd : s.device = .unconstrained (.ok w :: rest)) :
    ∃ rx m, step s = .next (s.loaded 1 [.evt .loading, .frame loadBaseTx rx] rest m) :=
  h.step_enter (.l1 s.begin hts) hd

/-- The next loading step, L2 to L4. -/
theorem step_loaded {k : Nat} {m : Bool} (h : s.Cycling) (hk : k ≠ 0)
    (hf : FrameStep .txcycle (s.loaded k new (.ok w :: rest) m).begin (s.loaded k new (.ok w :: rest) m).begin tx
      fun _ t => { t with k := k + 1 }) :
    ∃ rx m', step (s.loaded k new (.ok w :: rest) m) = .next (s.loaded (k + 1) (new ++ [.frame tx rx]) rest m') := by
  obtain ⟨rx, m', hs⟩ := (h.loaded k new (.ok w :: rest) m).step_frame hf rfl
  refine ⟨rx, m', hs.trans ?_⟩
  simp [State.moved, State.loaded, hk, Nat.add_assoc]

/-- T enters TRANSMITTING. -/
theorem step_transmitting {m : Bool} (h : s.Cycling) :
    ∃ rx m', step (s.loaded 4 new (.ok w :: rest) m) =
      .next (s.transmitting (new ++ [.evt .transmitting, .frame transmitTx rx]) rest m') := by
  obtain ⟨rx, m', hs⟩ := (h.loaded 4 new (.ok w :: rest) m).step_enter (.transmit _ rfl rfl) rfl
  refine ⟨rx, m', hs.trans ?_⟩
  simp [State.moved, State.loaded, State.transmitting]

/-- L1 to L4 and T, on a radio that answers their frames (R145, R146). -/
theorem stepN_transmitting {w1 w2 w3 w4 w5 : List Byte} (h : s.Cycling) (hts : s.ts = .idle)
    (hd : s.device = .unconstrained (.ok w1 :: .ok w2 :: .ok w3 :: .ok w4 :: .ok w5 :: rest)) :
    ∃ new m, stepN 5 s = .next (s.transmitting new rest m) ∧
      sentOf new = [.evt .loading, .frame loadBaseTx [], .frame loadPtrTx [],
        .frame (loadPayloadTx (s.bufBytes s.len.toNat)) [], .frame (loadLenTx s.len) [],
        .evt .transmitting, .frame transmitTx []] := by
  obtain ⟨r1, m1, h1⟩ := h.step_loading hts hd
  obtain ⟨r2, m2, h2⟩ := h.step_loaded (k := 1) (m := m1) (by decide) (.l2 _ rfl rfl)
  obtain ⟨r3, m3, h3⟩ := h.step_loaded (k := 2) (m := m2) (by decide) (.l3 _ rfl rfl)
  obtain ⟨r4, m4, h4⟩ := h.step_loaded (k := 3) (m := m3) (by decide) (.l4 _ rfl rfl)
  obtain ⟨r5, m5, h5⟩ := h.step_transmitting (m := m4)
  have hrun := (stepN_succ 4 h1).trans <| (stepN_succ 3 h2).trans <| (stepN_succ 2 h3).trans <|
    (stepN_succ 1 h4).trans (stepN_succ 0 h5)
  exact ⟨_, m5, hrun, rfl⟩

end State.Cycling

/-! ### The poll rounds -/

/-- The beginning of a step is not what entering AWAITING looks at. -/
theorem enterAwaiting_begin (s : State) : enterAwaiting s.begin = (enterAwaiting s).begin := by
  unfold enterAwaiting
  rw [apply_ite State.begin]
  rfl

/-- The state after an answered poll that read the flags `f` and goes on (R147). -/
def State.polled (f : Byte) (nclear : Nat) (dly : Bool) (ev : Option Event) (new : List HistEntry) (rest : List Reply)
    (m : Bool) (s : State) : State :=
  { s.moved .awaiting ev new rest m with
    pollcnt := satInc (enterAwaiting s).pollcnt
    lastirq := f
    nclear := nclear
    dly := dly }

/-- The state after a poll that observed the flag clear, and the wait after it (R147, R148). -/
def State.waited (x f : Byte) (rest : List Reply) (m : Bool) (s : State) : State :=
  { s.polled f ((enterAwaiting s).nclear + 1) false (some .pollTick)
      [.frame pollTx [x, f], .evt .pollTick, .delay 10] rest m with
    tick := s.tick + 2
    evtValid := false }

namespace State.Cycling

variable {s : State} {x f : Byte} {rest : List Reply}

theorem polled (h : s.Cycling) (f : Byte) (nclear : Nat) (dly : Bool) (ev : Option Event) (new : List HistEntry)
    (rest : List Reply) (m : Bool) : (s.polled f nclear dly ev new rest m).Cycling := { h with }

theorem waited (h : s.Cycling) (x f : Byte) (rest : List Reply) (m : Bool) : (s.waited x f rest m).Cycling := { h with }

/-- The poll that observes the flag set. -/
theorem step_set (h : s.Cycling) (hp : s.PollNext) (hd : s.device = .unconstrained (.ok [x, f] :: rest))
    (hf : f &&& 0x08 ≠ 0x00) :
    ∃ m, step s = .next (s.polled f (enterAwaiting s).nclear s.dly none [.frame pollTx [x, f]] rest m) := by
  have hpoll := State.PollNext.exec_set (s := s.begin) hp (State.answer_listed hd rfl) hf
  rw [h.begin_afterFrame hd, enterAwaiting_begin, ← h.step_eq] at hpoll
  exact ⟨_, hpoll⟩

/-- The poll that observes the flag clear below the bound. -/
theorem step_clear (h : s.Cycling) (hp : s.PollNext) (hd : s.device = .unconstrained (.ok [x, f] :: rest))
    (hf : f &&& 0x08 = 0x00) (hl : ∀ l, s.params.pollLimit = some l → (enterAwaiting s).nclear + 1 < l) :
    ∃ m, step s = .next (s.polled f ((enterAwaiting s).nclear + 1) true (some .pollTick)
      [.frame pollTx [x, f], .evt .pollTick] rest m) := by
  have hpoll := State.PollNext.exec_clear (s := s.begin) hp (State.answer_listed hd rfl) hf
    (by rw [enterAwaiting_begin]; exact hl)
  rw [h.begin_afterFrame hd, enterAwaiting_begin, ← h.step_eq] at hpoll
  exact ⟨_, hpoll⟩

/-- That poll, and the wait. -/
theorem stepN_waited (h : s.Cycling) (hp : s.PollNext) (hd : s.device = .unconstrained (.ok [x, f] :: rest))
    (hf : f &&& 0x08 = 0x00) (hl : ∀ l, s.params.pollLimit = some l → (enterAwaiting s).nclear + 1 < l) :
    ∃ m, stepN 2 s = .next (s.waited x f rest m) := by
  obtain ⟨m, hpoll⟩ := h.step_clear hp hd hf hl
  refine ⟨m, (stepN_succ 1 hpoll).trans (stepN_succ 0 ?_)⟩
  rw [(h.polled _ _ _ _ _ _ _).step_eq, exec_txcycle_of_dly rfl rfl]
  simp [State.waited, State.polled, State.moved, State.begin, h.silent]

end State.Cycling

/-- After the wait the next micro-step is a poll. -/
theorem State.waited_pollNext (s : State) (x : Byte) {f : Byte} (rest : List Reply) (m : Bool)
    (hf : f &&& 0x08 = 0x00) : (s.waited x f rest m).PollNext :=
  .inr ⟨rfl, rfl, txDoneFlag_eq_false_iff.mpr hf⟩

/-- The next poll counts on from this one. -/
theorem State.waited_pollcnt (s : State) (x f : Byte) (rest : List Reply) (m : Bool) :
    (enterAwaiting (s.waited x f rest m)).pollcnt = satInc (enterAwaiting s).pollcnt := by
  rw [enterAwaiting_of_awaiting rfl]
  rfl

theorem State.waited_nclear (s : State) (x f : Byte) (rest : List Reply) (m : Bool) :
    (enterAwaiting (s.waited x f rest m)).nclear = (enterAwaiting s).nclear + 1 := by
  rw [enterAwaiting_of_awaiting rfl]
  rfl

/-! ### The whole cycle -/

/-- The state `n` steps on, where the cycle has completed: `new` is recorded, and the radio has `more` still to answer
(R149). -/
def State.cycleEnded (n : Nat) (pollcnt : BitVec 16) (f : Byte) (nclear : Nat) (new : List HistEntry)
    (more : List Reply) (m : Bool) (s : State) : State :=
  { s.moved .idle (some .done) new more m with
    tick := s.tick + n
    evtValid := false
    stBusy := false
    stDone := true
    cur := none
    k := 0
    dly := false
    pollcnt := pollcnt
    lastirq := f
    nclear := nclear }

/-- A cycle that ends after a poll round has ended. -/
theorem State.waited_cycleEnded (s : State) (x f : Byte) (rest : List Reply) (m : Bool) (n : Nat) (pollcnt : BitVec 16)
    (g : Byte) (nclear : Nat) (new : List HistEntry) (more : List Reply) (m' : Bool) :
    (s.waited x f rest m).cycleEnded n pollcnt g nclear new more m' = s.cycleEnded (2 + n) pollcnt g nclear
      ([.frame pollTx [x, f], .evt .pollTick, .delay 10] ++ new) more m' := by
  simp [State.cycleEnded, State.waited, State.polled, State.moved, Nat.add_assoc]

/-- The first poll counts from 0. -/
theorem State.transmitting_pollcnt (s : State) (new : List HistEntry) (rest : List Reply) (m : Bool) :
    (enterAwaiting (s.transmitting new rest m)).pollcnt = 0x0000 := by
  rw [enterAwaiting_of_transmitting rfl]

theorem State.transmitting_nclear (s : State) (new : List HistEntry) (rest : List Reply) (m : Bool) :
    (enterAwaiting (s.transmitting new rest m)).nclear = 0 := by
  rw [enterAwaiting_of_transmitting rfl]

/-- A cycle that ends after its loading steps and T has ended. -/
theorem State.transmitting_cycleEnded (s : State) (new : List HistEntry) (rest : List Reply) (m : Bool) (n : Nat)
    (pollcnt : BitVec 16) (f : Byte) (nclear : Nat) (new' : List HistEntry) (more : List Reply) (m' : Bool) :
    (s.transmitting new rest m).cycleEnded n pollcnt f nclear new' more m' =
      s.cycleEnded (5 + n) pollcnt f nclear (new ++ new') more m' := by
  simp [State.cycleEnded, State.transmitting, State.loaded, State.moved, Nat.add_assoc]

theorem sentOf_append (h h' : List HistEntry) : sentOf (h ++ h') = sentOf h ++ sentOf h' := List.map_append

namespace State.Cycling

variable {s : State} {x f : Byte} {w : List Byte} {rest more : List Reply}

/-- A poll that observes the flag set, then D and C. -/
theorem stepN_cycleEnded (h : s.Cycling) (hp : s.PollNext) (hdly : s.dly = false)
    (hd : s.device = .unconstrained (.ok [x, f] :: .ok w :: more)) (hf : f &&& 0x08 ≠ 0x00) :
    ∃ rx m, stepN 3 s = .next (s.cycleEnded 3 (satInc (enterAwaiting s).pollcnt) f (enterAwaiting s).nclear
      [.frame pollTx [x, f], .evt .done, .frame clearTx rx] more m) := by
  obtain ⟨m, hpoll⟩ := h.step_set hp hd hf
  have hc := h.polled f (enterAwaiting s).nclear s.dly none [.frame pollTx [x, f]] (.ok w :: more) m
  obtain ⟨rx, m', hdone⟩ := hc.step_enter (.clear _ rfl hdly (txDoneFlag_eq_true_iff.mpr hf)) rfl
  refine ⟨rx, m', (stepN_succ 2 hpoll).trans ((stepN_succ 1 hdone).trans (stepN_succ 0 ?_))⟩
  rw [(hc.moved _ _ _ _ _).step_eq, doneClearsTheFlagAndCompletes.2 _ rfl]
  simp [State.cycleEnded, State.polled, State.moved, State.begin, h.silent, hdly]

/-- The polls of a cycle, the last of which observes the flag set, then D and C. -/
theorem stepN_polls {clear : List (Byte × Byte)} (h : s.Cycling) (hp : s.PollNext) (hdly : s.dly = false)
    (hd : s.device = .unconstrained (clear.map (fun p => Reply.ok [p.1, p.2]) ++ .ok [x, f] :: .ok w :: more))
    (hclear : ∀ p ∈ clear, p.2 &&& 0x08 = 0x00) (hf : f &&& 0x08 ≠ 0x00)
    (hl : ∀ l, s.params.pollLimit = some l → (enterAwaiting s).nclear + clear.length < l) :
    ∃ new m,
      stepN (2 * clear.length + 3) s = .next (s.cycleEnded (2 * clear.length + 3)
        (satInc^[clear.length + 1] (enterAwaiting s).pollcnt) f ((enterAwaiting s).nclear + clear.length) new more m) ∧
      sentOf new = (List.replicate clear.length [HistEntry.frame pollTx [], .evt .pollTick, .delay 10]).flatten ++
        [.frame pollTx [], .evt .done, .frame clearTx []] := by
  induction clear generalizing s with
  | nil =>
    obtain ⟨rx, m, hrun⟩ := h.stepN_cycleEnded hp hdly hd hf
    exact ⟨_, m, hrun, rfl⟩
  | cons p clear ih =>
    simp only [List.length_cons, List.forall_mem_cons] at hclear hl
    obtain ⟨hpclear, hclear⟩ := hclear
    obtain ⟨m, hround⟩ := h.stepN_waited
      (rest := clear.map (fun p => Reply.ok [p.1, p.2]) ++ .ok [x, f] :: .ok w :: more) hp hd hpclear
      fun l hlim => by have := hl l hlim; omega
    obtain ⟨new, m', hrun, hsent⟩ := ih (h.waited p.1 p.2 _ m) (s.waited_pollNext p.1 _ m hpclear) rfl rfl hclear
      fun l hlim => by
        have := hl l hlim
        rw [State.waited_nclear]
        omega
    rw [State.waited_pollcnt, State.waited_nclear, ← Function.iterate_succ_apply, State.waited_cycleEnded] at hrun
    refine ⟨[.frame pollTx [p.1, p.2], .evt .pollTick, .delay 10] ++ new, m', ?_, ?_⟩
    · have hlen : 2 * (p :: clear).length + 3 = 2 + (2 * clear.length + 3) := by rw [List.length_cons]; omega
      rw [hlen, stepN_add 2 _ hround, hrun, Nat.add_right_comm (enterAwaiting s).nclear]
      rfl
    · rw [sentOf_append, hsent, List.length_cons, List.replicate_succ, List.flatten_cons, List.append_assoc]
      rfl

end State.Cycling

/-- `n` polls on, the poll count has gone up by `n` or saturated (R30). -/
theorem satInc_iterate_toNat (n : Nat) (c : BitVec 16) : (satInc^[n] c).toNat = min (c.toNat + n) 0xFFFF := by
  induction n with
  | zero =>
    have := c.isLt
    rw [Function.iterate_zero_apply]
    omega
  | succ n ih =>
    rw [Function.iterate_succ_apply', satInc_toNat, ih]
    omega

theorem satInc_iterate_zero (n : Nat) : satInc^[n] 0x0000 = BitVec.ofNat 16 (min n 0xFFFF) := by
  apply BitVec.eq_of_toNat_eq
  rw [satInc_iterate_toNat, BitVec.toNat_ofNat, show (0x0000 : BitVec 16).toNat = 0 from rfl]
  omega

/-- Settles O39: the loading steps and T, then the polls and the end from TRANSMITTING. -/
theorem txcycleSendsItsFramesInOrder : Obligations.TxcycleSendsItsFramesInOrder := by
  unfold Obligations.TxcycleSendsItsFramesInOrder
  intro s w1 w2 w3 w4 w5 w6 clear x f more hn hp hb hc hk hts hdly hturns hl hclear hf hd
  have h : s.Cycling := ⟨hn, hp, hc, hturns⟩
  rw [List.append_assoc] at hd
  obtain ⟨new, m, hload, hsent⟩ := h.stepN_transmitting
    (rest := clear.map (fun p => Reply.ok [p.1, p.2]) ++ .ok [x, f] :: .ok w6 :: more) hts hd
  have hbound : ∀ rest l, s.params.pollLimit = some l →
      (enterAwaiting (s.transmitting new rest m)).nclear + clear.length < l := fun rest l hlim => by
    rw [State.transmitting_nclear, Nat.zero_add]
    exact hl l hlim
  obtain ⟨new', m', hrun, hsent'⟩ := State.Cycling.stepN_polls (x := x) (w := w6) (more := more)
    (h.transmitting new _ m) (.inl rfl) hdly rfl hclear hf (hbound _)
  rw [State.transmitting_pollcnt, State.transmitting_nclear, State.transmitting_cycleEnded, satInc_iterate_zero,
    Nat.zero_add] at hrun
  have hlen : 2 * clear.length + 8 = 5 + (2 * clear.length + 3) := by omega
  refine ⟨new ++ new', m', ?_, ?_⟩
  · rw [hlen, stepN_add 5 _ hload, hrun]
    simp [State.cycleEnded, State.moved, hk, hts, hdly]
  · rw [sentOf_append, hsent, hsent', List.append_assoc]
    rfl

/-- Settles O40: one poll round after the other. -/
theorem unboundedPollingNeverCompletes : Obligations.UnboundedPollingNeverCompletes := by
  unfold Obligations.UnboundedPollingNeverCompletes
  intro s clear more hn hp hb hc hturns hl hts hdly hirq hclear hd
  induction clear generalizing s with
  | nil =>
    have := s.pollcnt.isLt
    exact ⟨s, rfl, hb, hc, hts, hdly, hirq, by rw [List.length_nil]; omega, by simp⟩
  | cons p clear ih =>
    obtain ⟨hpclear, hclear⟩ := List.forall_mem_cons.mp hclear
    have h : s.Cycling := ⟨hn, hp, hc, hturns⟩
    obtain ⟨m, hround⟩ := h.stepN_waited (rest := clear.map (fun p => Reply.ok [p.1, p.2]) ++ more)
      (.inr ⟨hts, hdly, txDoneFlag_eq_false_iff.mpr hirq⟩) hd hpclear (by simp [hl])
    obtain ⟨t, hrun, htb, htc, htts, htdly, htirq, hcount, hsent⟩ :=
      ih (s.waited p.1 p.2 _ m) hn hp hb hc hturns hl rfl rfl hpclear hclear rfl
    have hlen : 2 * (p :: clear).length = 2 + 2 * clear.length := by rw [List.length_cons]; omega
    refine ⟨t, ?_, htb, htc, htts, htdly, htirq, ?_, ?_⟩
    · rw [hlen, stepN_add 2 _ hround, hrun]
    · have hone : (s.waited p.1 p.2 (clear.map (fun p => Reply.ok [p.1, p.2]) ++ more) m).pollcnt =
          satInc s.pollcnt := congrArg (fun t : State => satInc t.pollcnt) (enterAwaiting_of_awaiting hts)
      rw [hcount, hone, satInc_toNat, List.length_cons]
      omega
    · rw [hsent, List.length_cons, List.replicate_succ, List.flatten_cons, ← List.append_assoc]
      exact congrArg (· ++ _) (sentOf_append s.history [.frame pollTx [p.1, p.2], .evt .pollTick, .delay 10])

end Sys2Proof.Machine
end

section
/-! SUPPORT. CMD writes that end in their acceptance micro-step: a reserved opcode, and a block whose reset sequence
failed (60_exceptions.md R171-R173). -/
namespace Sys2Proof.Machine

/-- The step of a CMD write to an idle block is an acceptance at the begun state (10_state.md R25). -/
theorem step_cmd_of_idle {s : State} {w : Byte} {rest : List Turn} (hn : s.rstN = true)
    (ht : s.turns = .write 0x000 w :: rest) (hb : s.stBusy = false) :
    step s = .next (s.begin.accept (opField w)) := by
  obtain ⟨hturn, -⟩ := State.turn_of_turns ht
  rw [step_write hturn, State.hostWrite_cmd_of_idle w (s := s.begin) hn hb]

/-- Settles O13: of what acceptance can do (`State.accept_cases`), a reserved opcode leaves ILLEGAL_OP. -/
theorem reservedOpcodeEndsInIllegalOp : Obligations.ReservedOpcodeEndsInIllegalOp := by
  unfold Obligations.ReservedOpcodeEndsInIllegalOp
  intro s w rest hn ht hb hf hop
  have hdec : decodeOp (opField w) = none := (decodeOp_eq_none_iff _).mpr (by simpa [opField] using hop)
  obtain ⟨-, rfl⟩ := State.turn_of_turns ht
  rw [step_cmd_of_idle hn ht hb]
  obtain ⟨hf', -⟩ | ⟨-, -, ha⟩ | ⟨-, hdec', -⟩ := s.begin.accept_cases (opField w)
  · exact absurd hf' hf
  · rw [ha]
    rfl
  · exact absurd hdec hdec'

/-- A block whose reset sequence failed is neither busy nor ready (60_exceptions.md R173). -/
theorem State.Inv.flags_of_failed {s : State} (h : s.Inv) (hf : s.rs = .failed) :
    s.stBusy = false ∧ s.stReady = false := by
  have hc : s.cur = none := h.cur_of_phase (by simp [hf])
  exact ⟨by simpa [hf, hc] using h.busy_iff, by simpa [hf] using h.ready_iff⟩

/-- Settles O14: the flags by the invariant, and of what acceptance can do (`State.accept_cases`) a failed block leaves
INIT. -/
theorem failedBlockAnswersInit : Obligations.FailedBlockAnswersInit := by
  unfold Obligations.FailedBlockAnswersInit
  refine ⟨fun s h hf => h.flags_of_failed hf, fun s w rest hn ht hb hf => ?_⟩
  obtain ⟨-, rfl⟩ := State.turn_of_turns ht
  rw [step_cmd_of_idle hn ht hb]
  obtain ⟨-, ha⟩ | ⟨hf', -⟩ | ⟨hf', -⟩ := s.begin.accept_cases (opField w)
  · rw [ha]
    rfl
  · exact absurd hf hf'
  · exact absurd hf hf'

end Sys2Proof.Machine
end

section
/-! SUPPORT. Everything a host write and a step can do, said once, and what they do to OVR (60_exceptions.md R180). -/
namespace Sys2Proof.Machine

/-- A host write sets OVR, clears bits of STATUS, is an acceptance, or reaches at most the operands and BUF (10_state.md
R25, R27, R34). -/
theorem State.hostWrite_outcomes (s : State) (a : HostAddr) (v : Byte) :
    s.hostWrite a v = s.setOvr ∨ (a = 0x005 ∧ s.hostWrite a v = s.w1cStatus v) ∨
      s.hostWrite a v = s.accept (opField v) ∨
      ∃ addr len lo hi buf,
        s.hostWrite a v = { s with addr := addr, len := len, dataLo := lo, dataHi := hi, buf := buf } := by
  have hif (t : State) : (if s.stBusy then s.setOvr else t) = s.setOvr ∨ (if s.stBusy then s.setOvr else t) = t := by
    cases s.stBusy
    · exact .inr rfl
    · exact .inl rfl
  unfold State.hostWrite State.writeReg
  split
  case isFalse => exact .inr (.inr (.inr ⟨_, _, _, _, _, rfl⟩))
  case isTrue =>
    split
    · exact (hif _).imp_right fun h => .inr (.inr ⟨_, _, _, _, _, h⟩)
    · split
      case h_1 => exact (hif _).imp_right fun h => .inr (.inl h)
      case h_6 ha => exact .inr (.inl ⟨BitVec.eq_of_toNat_eq ha, rfl⟩)
      case h_7 => exact .inr (.inr (.inr ⟨_, _, _, _, _, rfl⟩))
      all_goals exact (hif _).imp_right fun h => .inr (.inr ⟨_, _, _, _, _, h⟩)

/-- Acceptance leaves OVR and the history, whatever becomes of the command (10_state.md R25). -/
theorem State.accept_keeps (op : Opcode) (s : State) :
    (s.accept op).stOvr = s.stOvr ∧ (s.accept op).history = s.history := by
  obtain ⟨-, h⟩ | ⟨-, -, h⟩ | ⟨-, -, h⟩ := s.accept_cases op <;> rw [h] <;> exact ⟨rfl, rfl⟩

/-- A host write records nothing (10_state.md R44). -/
@[simp] theorem State.hostWrite_history (s : State) (a : HostAddr) (v : Byte) :
    (s.hostWrite a v).history = s.history := by
  obtain h | ⟨-, h⟩ | h | ⟨_, _, _, _, _, h⟩ := s.hostWrite_outcomes a v <;> rw [h]
  · rfl
  · rfl
  · exact (s.accept_keeps _).2

/-- Of the host writes only a 1 in bit 3 of STATUS clears OVR (10_state.md R27). -/
theorem State.hostWrite_clears_ovr {s : State} {a : HostAddr} {v : Byte} (hs : s.stOvr = true)
    (h : (s.hostWrite a v).stOvr = false) : a = 0x005 ∧ v.getLsbD 3 = true := by
  obtain hw | ⟨ha, hw⟩ | hw | ⟨_, _, _, _, _, hw⟩ := s.hostWrite_outcomes a v <;> rw [hw] at h
  · cases h
  · exact ⟨ha, by simpa [hs] using h⟩
  · simp [(s.accept_keeps _).1, hs] at h
  · simp [hs] at h

/-- Everything a step can do, by whose turn it is (00_scope.md R9, R14): the block's micro-step, a host write alone or
before it, a read or a round of `wait`, or a change of `rst_n`. -/
theorem step_cases {s t : State} (h : step s = .next t) :
    blockStep s.begin = .next t ∨
    (∃ a v, (s.turn = .write a v ∨ s.turn = .blockAndWrite a v) ∧ t = s.begin.hostWrite a v) ∨
    (∃ a v, s.turn = .blockAndWrite a v ∧ s.stBusy = true ∧ blockStep (s.begin.hostWrite a v) = .next t) ∨
    (∃ d turns, t = { s.begin with hRdata := d, turns := turns }) ∨
    (∃ level, s.turn = .rstN level ∧ t = s.begin.setRstN level) := by
  cases hturn : s.turn with
  | block => exact .inl (step_block hturn ▸ h)
  | write a v =>
    rw [step_write hturn] at h
    cases h
    exact .inr (.inl ⟨a, v, .inl rfl, rfl⟩)
  | read a =>
    rw [step_read hturn] at h
    cases h
    exact .inr (.inr (.inr (.inl ⟨_, _, rfl⟩)))
  | wait gaps =>
    rw [step_wait hturn] at h
    cases h
    exact .inr (.inr (.inr (.inl ⟨_, _, rfl⟩)))
  | blockAndWrite a v =>
    cases hb : s.stBusy with
    | true => exact .inr (.inr (.inl ⟨a, v, rfl, rfl, step_blockAndWrite_busy hturn hb ▸ h⟩))
    | false =>
      rw [step_blockAndWrite_idle hturn hb] at h
      cases h
      exact .inr (.inl ⟨a, v, .inr rfl, rfl⟩)
  | rstN level =>
    simp only [step, takeTurn, hturn] at h
    cases h
    exact .inr (.inr (.inr (.inr ⟨level, rfl, rfl⟩)))

/-- A turn other than the block's is the first one listed (log entry 9). -/
theorem State.head?_of_turn {s : State} {w : Turn} (h : s.turn = w) (hw : w ≠ .block) : s.turns.head? = some w := by
  subst h
  cases hs : s.turns with
  | nil => simp [State.turn, hs] at hw
  | cons w rest => simp [State.turn, hs]

/-- The block's own turn leaves OVR (60_exceptions.md R180). -/
theorem blockStep_stOvr {s t : State} (h : blockStep s = .next t) : t.stOvr = s.stOvr := by
  obtain rfl | rfl | rfl | rfl | rfl | ⟨i, -, hx⟩ := blockStep_next h
  · rfl
  · unfold resetS0
    cases s.initDraw <;> rfl
  · rfl
  · rfl
  · rfl
  · obtain ⟨-, -, -, hovr, -⟩ := noCommandWritesItsOperands i s t hx
    exact hovr

/-- Settles O21, turn by turn (`step_cases`): the block's micro-step, a read and a rising `rst_n` leave OVR. -/
theorem onlyWriteOneOrResetClearsOvr : Obligations.OnlyWriteOneOrResetClearsOvr := by
  unfold Obligations.OnlyWriteOneOrResetClearsOvr
  intro s t ht hs hovr
  obtain hx | ⟨a, v, hturn, rfl⟩ | ⟨a, v, hturn, -, hx⟩ | ⟨d, turns, rfl⟩ | ⟨level, hturn, rfl⟩ := step_cases ht
  · simp [blockStep_stOvr hx, hs] at hovr
  · obtain ⟨rfl, hv⟩ := State.hostWrite_clears_ovr (s := s.begin) hs hovr
    exact .inl ⟨v, hv, hturn.imp (State.head?_of_turn · nofun) (State.head?_of_turn · nofun)⟩
  · rw [blockStep_stOvr hx] at hovr
    obtain ⟨rfl, hv⟩ := State.hostWrite_clears_ovr (s := s.begin) hs hovr
    exact .inl ⟨v, hv, .inr (State.head?_of_turn hturn nofun)⟩
  · simp [hs] at hovr
  · cases level with
    | false => exact .inr (State.head?_of_turn hturn nofun)
    | true => simp [State.setRstN, hs] at hovr

end Sys2Proof.Machine
end

section
/-! SUPPORT. No command but TXCYCLE drives the observer port (60_exceptions.md R181). -/
namespace Sys2Proof.Machine

/-- The observer port and the history (60_exceptions.md R181). -/
def State.observed (s : State) : Bool × Event × List HistEntry := (s.evtValid, s.evtCode, s.history)

/-- A command but TXCYCLE emits nothing before its frame. -/
theorem FrameStep.observed_before {i : Instr} {s u : State} {tx : List Byte} {f : List Byte → State → State}
    (hf : FrameStep i s u tx f) (hi : i ≠ .txcycle) : u.observed = s.observed := by
  cases hf with
  | l1 | transmit | firstPoll | clear => exact absurd rfl hi
  | _ => rfl

/-- A command but TXCYCLE emits nothing after its frame. -/
theorem FrameStep.observed_after {i : Instr} {s u : State} {tx : List Byte} {f : List Byte → State → State}
    (hf : FrameStep i s u tx f) (hi : i ≠ .txcycle) (rx : List Byte) (t : State) : (f rx t).observed = t.observed := by
  cases hf with
  | dump => obtain ⟨-, hd⟩ | ⟨-, hd⟩ := dumpResult_cases rx t <;> rw [hd] <;> rfl
  | firstPoll | poll => exact absurd rfl hi
  | _ => rfl

/-- A micro-step of a command but TXCYCLE leaves the observer port and records its frame alone. -/
theorem exec_observed {i : Instr} {s t : State} (hi : i ≠ .txcycle) (h : exec i s = .next t) :
    ∃ e : HistEntry, e.isFrame = true ∧ t.observed = (s.evtValid, s.evtCode, s.history ++ [e]) := by
  obtain ⟨hi', -⟩ | ⟨hi', -⟩ | ⟨u, tx, f, hf, rfl⟩ := exec_next h
  · exact absurd hi' hi
  · exact absurd hi' hi
  · have hu := hf.observed_before hi
    simp only [State.observed, Prod.mk.injEq] at hu
    obtain ⟨hvalid, hcode, hhist⟩ := hu
    obtain ⟨rx, -, -, hr⟩ | ⟨-, hr⟩ := u.runFrame_cases tx f <;> rw [hr]
    · exact ⟨.frame tx rx, rfl, by rw [hf.observed_after hi]; simp [State.observed, hvalid, hcode, hhist]⟩
    · exact ⟨.fail tx, rfl, by simp [State.observed, hvalid, hcode, hhist]⟩

/-- Settles O47: the one entry the micro-step records is a frame (`exec_observed`), which is no event. -/
theorem onlyTxcycleEmitsEvents : Obligations.OnlyTxcycleEmitsEvents := by
  unfold Obligations.OnlyTxcycleEmitsEvents
  intro i s t hi h
  obtain ⟨e, he, ht⟩ := exec_observed hi h
  simp only [State.observed, Prod.mk.injEq] at ht
  obtain ⟨hvalid, hcode, hhist⟩ := ht
  refine ⟨hvalid, hcode, [e], hhist, fun ev hev => ?_⟩
  rw [← List.mem_singleton.mp hev] at he
  cases he

end Sys2Proof.Machine
end

section
/-! SUPPORT. From every state with the invariant a step answers a next state (60_exceptions.md R177, 10_state.md R31). -/
namespace Sys2Proof.Machine

/-- CONFIG has a micro-step at each of its three indices. -/
theorem execConfig_answers {s : State} (hk : s.k < 3) : ∃ t, execConfig s = .next t := by
  unfold execConfig
  obtain hk | hk | hk : s.k = 0 ∨ s.k = 1 ∨ s.k = 2 := by omega
  all_goals
    rw [hk]
    exact ⟨_, rfl⟩

/-- TXCYCLE has a micro-step in every transmit state, in LOADING at each of its indices. -/
theorem execTxcycle_answers {s : State} (hk : s.ts = .loading → 1 ≤ s.k ∧ s.k ≤ 4) :
    ∃ t, execTxcycle s = .next t := by
  unfold execTxcycle
  split
  case h_2 hts =>
    obtain ⟨hlo, hhi⟩ := hk hts
    obtain hk | hk | hk | hk : s.k = 1 ∨ s.k = 2 ∨ s.k = 3 ∨ s.k = 4 := by omega
    all_goals
      rw [hk]
      exact ⟨_, rfl⟩
  all_goals exact ⟨_, rfl⟩

/-- The running command has a micro-step: its index is in the range R31 gives it. -/
theorem exec_answers {i : Instr} {s : State} (h : s.Inv) (hc : s.cur = some (opcodeOf i)) :
    ∃ t, exec i s = .next t := by
  cases i with
  | dump => exact ⟨_, if_pos (h.k_dump hc)⟩
  | config => exact execConfig_answers (h.k_config hc)
  | txcycle => exact execTxcycle_answers h.k_loading
  | _ => exact ⟨_, rfl⟩

/-- The block's turn answers a next state: no reserved opcode runs (R171). -/
theorem blockStep_answers {s : State} (h : s.Inv) : ∃ t, blockStep s = .next t := by
  unfold blockStep
  split
  case isFalse => exact ⟨_, rfl⟩
  case isTrue =>
    split
    case h_1 | h_2 | h_3 => exact ⟨_, rfl⟩
    all_goals
      split
      case h_1 => exact ⟨_, rfl⟩
      case h_2 op hc =>
        obtain ⟨-, -, hdec⟩ := h.running op hc
        split
        case h_1 i hd => exact exec_answers h (opcodeOf_of_decodeOp hd ▸ hc)
        case h_2 hd => exact absurd hd hdec

/-- Settles O50, turn by turn: only the block's micro-step can stop, and it answers (`blockStep_answers`). -/
theorem everyStepAnswersANextState : Obligations.EveryStepAnswersANextState := by
  unfold Obligations.EveryStepAnswersANextState
  intro s h
  have hb := h.begin
  unfold step takeTurn
  split
  case h_1 => exact blockStep_answers hb
  case h_5 a v _ =>
    unfold blockAndWrite
    split
    · exact blockStep_answers (hb.hostWrite a v)
    · exact ⟨_, rfl⟩
  all_goals exact ⟨_, rfl⟩

end Sys2Proof.Machine
end

section
/-! SUPPORT. A frame is one of a running command (60_exceptions.md R173, 70_reset_and_hazards.md R206). -/
namespace Sys2Proof.Machine

/-- Where no frame is appended, no new entry is one. -/
theorem State.Appends.isFrame_eq_false {s t : State} {new : List HistEntry} {e : HistEntry} (h : s.Appends 0 t)
    (hnew : t.history = s.history ++ new) (he : e ∈ new) : e.isFrame = false := by
  obtain ⟨new', hnew', hlen, -⟩ := h
  obtain rfl := List.append_cancel_left (hnew.symm.trans hnew')
  have hnil := List.eq_nil_of_length_eq_zero (Nat.le_zero.mp hlen)
  simpa using List.filter_eq_nil_iff.mp hnil e he

/-- The block's turn sends a frame only for a running command: the reset sequence sends none (70_reset_and_hazards.md
R200). -/
theorem blockStep_appends {s t : State} (h : blockStep s = .next t) : s.cur ≠ none ∨ s.Appends 0 t := by
  obtain rfl | rfl | rfl | rfl | rfl | ⟨i, hc, -⟩ := blockStep_next h
  · exact .inr (State.appends_of_eq rfl rfl rfl)
  · unfold resetS0
    cases s.initDraw
    · exact .inr (State.appends_of_eq rfl rfl rfl)
    · exact .inr (State.appends_of_entry (e := .rst false) rfl rfl rfl rfl)
  · exact .inr (State.appends_of_entry (e := .delay Config.resetLowMs) rfl rfl rfl rfl)
  · exact .inr (State.appends_of_entry (e := .rst true) rfl rfl rfl rfl)
  · exact .inr (State.appends_of_entry (e := .delay Config.resetHighMs) rfl rfl rfl rfl)
  · exact .inl (by simp [hc])

/-- A new frame of the block's turn is one of a running command. -/
theorem blockStep_running_of_frame {s t : State} {new : List HistEntry} {e : HistEntry} (h : blockStep s = .next t)
    (hnew : t.history = s.history ++ new) (he : e ∈ new) (hframe : e.isFrame = true) : s.cur ≠ none := by
  obtain hc | ha := blockStep_appends h
  · exact hc
  · simp [ha.isFrame_eq_false hnew he] at hframe

/-- A change of `rst_n` records nothing: its fall empties the history (70_reset_and_hazards.md R203). -/
theorem State.setRstN_history (s : State) (level : Bool) :
    (s.setRstN level).history = s.history ∨ (s.setRstN level).history = [] := by
  cases level with
  | true => exact .inl rfl
  | false => exact .inr rfl

/-- A step that appends a frame is one in which a command runs, in any state: the host's turns append nothing. -/
theorem step_running_of_frame {s t : State} {new : List HistEntry} {e : HistEntry} (h : step s = .next t)
    (hnew : t.history = s.history ++ new) (he : e ∈ new) (hframe : e.isFrame = true) : s.cur ≠ none := by
  have hne : new ≠ [] := List.ne_nil_of_mem he
  obtain hx | ⟨a, v, -, rfl⟩ | ⟨a, v, -, hb, hx⟩ | ⟨d, turns, rfl⟩ | ⟨level, -, rfl⟩ := step_cases h
  · exact blockStep_running_of_frame (s := s.begin) hx hnew he hframe
  · simp [hne] at hnew
  · obtain ⟨hcur, -⟩ := s.begin.hostWrite_of_busy_keeps a v hb
    have hnew' : t.history = (s.begin.hostWrite a v).history ++ new := by simpa using hnew
    exact ne_of_eq_of_ne hcur.symm (blockStep_running_of_frame hx hnew' he hframe)
  · simp [hne] at hnew
  · obtain hh | hh := s.begin.setRstN_history level <;> simp [hh, hne] at hnew

/-- Settles O51: a command runs (`step_running_of_frame`), and by the invariant only at a ready, busy block out of block
reset. -/
theorem noFrameBeforeTheBlockIsReady : Obligations.NoFrameBeforeTheBlockIsReady := by
  unfold Obligations.NoFrameBeforeTheBlockIsReady
  intro s t new e h ht hnew he hframe
  have hc : s.cur ≠ none := step_running_of_frame ht hnew he hframe
  have hrs := h.ready_of_running hc
  obtain ⟨hb, -⟩ := h.flags_of_running hc
  exact ⟨hrs, h.ready_iff.2 hrs, hb, hc, h.rstN_of_running hc⟩

end Sys2Proof.Machine
end

section
/-! SUPPORT. The block's turn phase by phase: in block reset, at each micro-step of the reset sequence, and with nothing
to do (70_reset_and_hazards.md R200, R201, R204). -/
namespace Sys2Proof.Machine

section

variable {s : State}

/-- A block in reset takes no micro-step (R200). -/
theorem blockStep_held (hn : s.rstN = false) : blockStep s = .next s := by
  simp [blockStep, hn]

/-- A block past its reset sequence and without a command takes no micro-step, in block reset or out of it (R204). -/
theorem blockStep_idle (hp : s.rs = .ready ∨ s.rs = .failed) (hc : s.cur = none) : blockStep s = .next s := by
  obtain hp | hp := hp <;> simp [blockStep, hp, hc]

/-! ### The micro-steps of the reset sequence -/

/-- In RS_OPEN the block's turn is S0. -/
theorem step_resetS0 (hn : s.rstN = true) (ht : s.turn = .block) (hp : s.rs = .opening) :
    step s = .next (resetS0 s.begin) := by
  simp [step_block ht, blockStep, hn, hp]

/-- In RS_LOW it is S1 until the line has been held low (log entry 8). -/
theorem step_resetS1 (hn : s.rstN = true) (ht : s.turn = .block) (hp : s.rs = .low) (hl : s.lowHeld = false) :
    step s = .next (resetS1 s.begin) := by
  simp [step_block ht, blockStep, hn, hp, hl]

/-- In RS_LOW it is S2 from then on. -/
theorem step_resetS2 (hn : s.rstN = true) (ht : s.turn = .block) (hp : s.rs = .low) (hl : s.lowHeld = true) :
    step s = .next (resetS2 s.begin) := by
  simp [step_block ht, blockStep, hn, hp, hl]

/-- In RS_HIGH it is S3. -/
theorem step_resetS3 (hn : s.rstN = true) (ht : s.turn = .block) (hp : s.rs = .high) :
    step s = .next (resetS3 s.begin) := by
  simp [step_block ht, blockStep, hn, hp]

/-- S0 where the bus and the lines open. -/
theorem resetS0_of_opens (hi : s.initDraw = true) : resetS0 s = { s with
    inits := s.inits.drop 1, rs := .low, rstDev := false, history := s.history ++ [.rst false] } := by
  simp [resetS0, hi, State.driveRst]

/-- S0 where they do not: the error INIT, and no line driven (R201). -/
theorem resetS0_of_fails (hi : s.initDraw = false) : resetS0 s = { s with
    inits := s.inits.drop 1, rs := .failed, stBusy := false, stErr := true, stReady := false, errcode := .init } := by
  simp [resetS0, hi]

/-- With a silent host the line is driven and held low (log entry 9). -/
theorem stepN_resetLow (hn : s.rstN = true) (hp : s.rs = .opening) (hl : s.lowHeld = false) (ht : s.turns = [])
    (hi : s.begin.initDraw = true) :
    stepN 2 s = .next { s with
      tick := s.tick + 2, evtValid := false, inits := s.inits.drop 1, rs := .low, lowHeld := true, rstDev := false,
      history := s.history ++ [.rst false, .delay 10] } := by
  refine Eq.trans (stepN_succ 1 (step_resetS0 hn (by simp [State.turn, ht]) hp)) ?_
  rw [resetS0_of_opens hi]
  refine Eq.trans (stepN_succ 0 (step_resetS1 hn (by simp [State.turn, ht]) rfl hl)) ?_
  simp [stepN, resetS1, State.begin, State.delay, State.record, Config.resetLowMs, ht]

/-- Then it is driven and held high, and the block is ready. -/
theorem stepN_resetHigh (hn : s.rstN = true) (hp : s.rs = .low) (hl : s.lowHeld = true) (ht : s.turns = []) :
    stepN 2 s = .next { s with
      tick := s.tick + 2, evtValid := false, lowHeld := false, rs := .ready, rstDev := true, stBusy := false,
      stReady := true, history := s.history ++ [.rst true, .delay 10] } := by
  rw [stepN_succ 1 (step_resetS2 hn (by simp [State.turn, ht]) hp hl)]
  refine Eq.trans (stepN_succ 0 (step_resetS3 hn (by simp [State.turn, ht, resetS2]) rfl)) ?_
  simp [stepN, resetS2, resetS3, State.begin, State.delay, State.record, State.driveRst, Config.resetHighMs, ht]

end

/-- Settles O7: with nothing to do the block's turn changes nothing (`blockStep_idle`). -/
theorem idleBlockWaits : Obligations.IdleBlockWaits := by
  unfold Obligations.IdleBlockWaits
  intro s hp hc ht
  rw [step_block ht]
  exact blockStep_idle hp hc

/-- Settles O9, clause by clause: no micro-step in block reset, each of S0 to S3 from its phase, and the silent run of
the four, in two halves. -/
theorem resetSequenceRunsS0ToS3 : Obligations.ResetSequenceRunsS0ToS3 := by
  unfold Obligations.ResetSequenceRunsS0ToS3
  refine ⟨fun s hn ht => ?_,
    fun s hn ht => ⟨fun hp hi => ?_, step_resetS1 hn ht, step_resetS2 hn ht, step_resetS3 hn ht⟩,
    fun s hn hp hl ht hi => ?_⟩
  · rw [step_block ht]
    exact blockStep_held hn
  · rw [step_resetS0 hn ht hp, resetS0_of_opens (s := s.begin) hi]
    rfl
  · rw [stepN_add 2 2 (stepN_resetLow hn hp hl ht hi)]
    refine Eq.trans (stepN_resetHigh hn rfl rfl ht) ?_
    simp [hl]

end Sys2Proof.Machine
end

section
/-! SUPPORT. The failed opening, which only block reset leaves (70_reset_and_hazards.md R201). -/
namespace Sys2Proof.Machine

/-- A host write leaves the phase of the reset sequence (10_state.md R31). -/
@[simp] theorem State.hostWrite_rs (s : State) (a : HostAddr) (v : Byte) : (s.hostWrite a v).rs = s.rs := by
  obtain h | ⟨-, h⟩ | h | ⟨_, _, _, _, _, h⟩ := s.hostWrite_outcomes a v <;> rw [h]
  · rfl
  · rfl
  · obtain ⟨-, ha⟩ | ⟨-, -, ha⟩ | ⟨-, -, ha⟩ := s.accept_cases (opField v) <;> rw [ha]

/-- A failed block's turn changes nothing or is a command's micro-step, in any state. -/
theorem blockStep_of_failed {s t : State} (hf : s.rs = .failed) (h : blockStep s = .next t) :
    t = s ∨ ∃ i, exec i s = .next t := by
  simp only [blockStep, hf] at h
  split at h
  case isFalse => cases h; exact .inl rfl
  case isTrue =>
    split at h
    case h_1 => cases h; exact .inl rfl
    case h_2 =>
      split at h
      case h_1 i _ => exact .inr ⟨i, h⟩
      case h_2 => cases h

/-- A failed block's turn leaves it failed: no command writes the phase. -/
theorem blockStep_rs_of_failed {s t : State} (hf : s.rs = .failed) (h : blockStep s = .next t) : t.rs = .failed := by
  obtain rfl | ⟨i, hx⟩ := blockStep_of_failed hf h
  · exact hf
  · obtain ⟨-, -, -, -, -, hrs, -⟩ := noCommandWritesItsOperands i s t hx
    exact hrs.trans hf

/-- Settles O10: the step of a failed opening is S0 (`resetS0_of_fails`), and turn by turn (`step_cases`) only the fall
of `rst_n` leaves the failed phase. -/
theorem failedOpeningLeavesInitError : Obligations.FailedOpeningLeavesInitError := by
  unfold Obligations.FailedOpeningLeavesInitError
  refine ⟨fun s hn hp ht hi => ?_, fun s t hf ht => ?_⟩
  · rw [step_resetS0 hn ht hp, resetS0_of_fails (s := s.begin) hi]
    rfl
  · obtain hx | ⟨a, v, -, rfl⟩ | ⟨a, v, -, -, hx⟩ | ⟨d, turns, rfl⟩ | ⟨level, hturn, rfl⟩ := step_cases ht
    · exact .inl (blockStep_rs_of_failed (s := s.begin) hf hx)
    · exact .inl ((s.begin.hostWrite_rs a v).trans hf)
    · exact .inl (blockStep_rs_of_failed ((s.begin.hostWrite_rs a v).trans hf) hx)
    · exact .inl hf
    · cases level with
      | true => exact .inl hf
      | false => exact .inr (State.head?_of_turn hturn nofun)

end Sys2Proof.Machine
end

section
/-! SUPPORT. Block reset, the only cancellation, and the values it gives (70_reset_and_hazards.md R202, R203). -/
namespace Sys2Proof.Machine

/-- A step with the turn of `rst_n` sets its level at the begun state. -/
theorem step_rstN {s : State} {level : Bool} (h : s.turn = .rstN level) : step s = .next (s.begin.setRstN level) := by
  simp [step, takeTurn, h]

/-- Settles O11: the fall of `rst_n` is `State.blockReset`, and of a busy block a host write reaches STATUS alone
(`State.hostWrite_of_busy`), a read or a round of `wait` the port, and a rise of `rst_n` its level. -/
theorem blockResetAtAnyBoundary : Obligations.BlockResetAtAnyBoundary := by
  unfold Obligations.BlockResetAtAnyBoundary
  refine ⟨fun s rest ht => ?_, fun s t a v rest hb ht h => ?_⟩
  · obtain ⟨hturn, rfl⟩ := State.turn_of_turns ht
    exact ⟨Config.mosiIdle (s.tick + 1), State.reset.evtCode, State.reset.hRdata, step_rstN hturn⟩
  · obtain ht | ht | ⟨gaps, ht⟩ | ht := ht <;> obtain ⟨hturn, -⟩ := State.turn_of_turns ht
    · rw [step_write hturn] at h
      cases h
      obtain hw | hw | hw := s.begin.hostWrite_of_busy a v hb <;> rw [hw] <;> exact ⟨rfl, rfl, rfl, rfl, hb⟩
    · rw [step_read hturn] at h
      cases h
      exact ⟨rfl, rfl, rfl, rfl, hb⟩
    · rw [step_wait hturn] at h
      cases h
      exact ⟨rfl, rfl, rfl, rfl, hb⟩
    · rw [step_rstN hturn] at h
      cases h
      exact ⟨rfl, rfl, rfl, rfl, hb⟩

/-! ### The reset state -/

/-- The reset state holds the reset values (R203). -/
theorem State.reset_atResetValues : State.reset.AtResetValues := by
  simp [State.AtResetValues, State.reset]

/-- Settles O8: STATUS reads BUSY alone, and the rest are reset values. -/
theorem resetStateHoldsTheResetValues : Obligations.ResetStateHoldsTheResetValues := by
  have hstatus : State.reset.statusByte = 0x01 := by decide
  have h := State.reset_atResetValues
  unfold State.AtResetValues at h
  unfold Obligations.ResetStateHoldsTheResetValues
  tauto

/-- Settles O48: the reset values meet the invariant, beside a radio with no data of its own. -/
theorem resetStateMeetsTheInvariant : Obligations.ResetStateMeetsTheInvariant :=
  State.reset_atResetValues.inv rfl rfl

end Sys2Proof.Machine
end
